-- ==== Sys2Proof/Word.lean ====
section
/-! DEFINITION. The word types of the MIPS-6371: every general register, address and instruction is 32 bits, the
unit of memory is the 8-bit byte (spec/00_scope.md R8, R9; spec/20_memory.md R70). -/

namespace Sys2Proof

/-- A 32-bit word (spec/00_scope.md R9). -/
abbrev Word := BitVec 32

/-- The unit of memory (spec/20_memory.md R70). -/
abbrev Byte := BitVec 8

/-- A general register number, a 5-bit field (spec/10_state.md R22). -/
abbrev RegNo := BitVec 5

/-- A CP0 register number, the `rd` field of MFC0 and MTC0 (spec/10_state.md R31). -/
abbrev Cp0No := BitVec 5

end Sys2Proof
end

