-- ==== Sys2Proof/Syntax.lean ====
section
/-! DEFINITION. The instructions of the MIPS-6371: one constructor per row of spec/opcode_table.json, with the
operands of spec/30_encoding.md R117 and R126 in the order of the assembler syntax. A field's type is exactly as wide
as the field, so every term stands for a word. -/

namespace Sys2Proof

/-- One instruction, as decoded. -/
inductive Instr where
  -- Loads and stores (spec/40_loads_stores.md).
  /-- `LB rt, offset(rs)` (R141). -/
  | lb (rt : RegNo) (rs : RegNo) (imm : BitVec 16)
  /-- `LH rt, offset(rs)` (R142). -/
  | lh (rt : RegNo) (rs : RegNo) (imm : BitVec 16)
  /-- `LW rt, offset(rs)` (R143). -/
  | lw (rt : RegNo) (rs : RegNo) (imm : BitVec 16)
  /-- `LBU rt, offset(rs)` (R144). -/
  | lbu (rt : RegNo) (rs : RegNo) (imm : BitVec 16)
  /-- `LHU rt, offset(rs)` (R145). -/
  | lhu (rt : RegNo) (rs : RegNo) (imm : BitVec 16)
  /-- `SB rt, offset(rs)` (R146). -/
  | sb (rt : RegNo) (rs : RegNo) (imm : BitVec 16)
  /-- `SH rt, offset(rs)` (R147). -/
  | sh (rt : RegNo) (rs : RegNo) (imm : BitVec 16)
  /-- `SW rt, offset(rs)` (R148). -/
  | sw (rt : RegNo) (rs : RegNo) (imm : BitVec 16)
  -- Register-immediate computational (spec/41_immediate_computational.md).
  /-- `ADDI rt, rs, imm` (R161). -/
  | addi (rt : RegNo) (rs : RegNo) (imm : BitVec 16)
  /-- `ADDIU rt, rs, imm` (R162). -/
  | addiu (rt : RegNo) (rs : RegNo) (imm : BitVec 16)
  /-- `SLTI rt, rs, imm` (R163). -/
  | slti (rt : RegNo) (rs : RegNo) (imm : BitVec 16)
  /-- `SLTIU rt, rs, imm` (R164). -/
  | sltiu (rt : RegNo) (rs : RegNo) (imm : BitVec 16)
  /-- `ANDI rt, rs, imm` (R165). -/
  | andi (rt : RegNo) (rs : RegNo) (imm : BitVec 16)
  /-- `ORI rt, rs, imm` (R166). -/
  | ori (rt : RegNo) (rs : RegNo) (imm : BitVec 16)
  /-- `XORI rt, rs, imm` (R167). -/
  | xori (rt : RegNo) (rs : RegNo) (imm : BitVec 16)
  /-- `LUI rt, imm` (R168). -/
  | lui (rt : RegNo) (imm : BitVec 16)
  -- Shifts and register-register computational (spec/42_register_computational.md).
  /-- `SLL rd, rt, shamt` (R192). -/
  | sll (rd : RegNo) (rt : RegNo) (shamt : BitVec 5)
  /-- `SRL rd, rt, shamt` (R193). -/
  | srl (rd : RegNo) (rt : RegNo) (shamt : BitVec 5)
  /-- `SRA rd, rt, shamt` (R194). -/
  | sra (rd : RegNo) (rt : RegNo) (shamt : BitVec 5)
  /-- `SLLV rd, rt, rs` (R195). -/
  | sllv (rd : RegNo) (rt : RegNo) (rs : RegNo)
  /-- `SRLV rd, rt, rs` (R196). -/
  | srlv (rd : RegNo) (rt : RegNo) (rs : RegNo)
  /-- `SRAV rd, rt, rs` (R197). -/
  | srav (rd : RegNo) (rt : RegNo) (rs : RegNo)
  /-- `ADD rd, rs, rt` (R181). -/
  | add (rd : RegNo) (rs : RegNo) (rt : RegNo)
  /-- `ADDU rd, rs, rt` (R182). -/
  | addu (rd : RegNo) (rs : RegNo) (rt : RegNo)
  /-- `SUB rd, rs, rt` (R183). -/
  | sub (rd : RegNo) (rs : RegNo) (rt : RegNo)
  /-- `SUBU rd, rs, rt` (R184). -/
  | subu (rd : RegNo) (rs : RegNo) (rt : RegNo)
  /-- `AND rd, rs, rt` (R187). -/
  | and (rd : RegNo) (rs : RegNo) (rt : RegNo)
  /-- `OR rd, rs, rt` (R188). -/
  | or (rd : RegNo) (rs : RegNo) (rt : RegNo)
  /-- `XOR rd, rs, rt` (R189). -/
  | xor (rd : RegNo) (rs : RegNo) (rt : RegNo)
  /-- `NOR rd, rs, rt` (R190). -/
  | nor (rd : RegNo) (rs : RegNo) (rt : RegNo)
  /-- `SLT rd, rs, rt` (R185). -/
  | slt (rd : RegNo) (rs : RegNo) (rt : RegNo)
  /-- `SLTU rd, rs, rt` (R186). -/
  | sltu (rd : RegNo) (rs : RegNo) (rt : RegNo)
  -- Multiply, divide and hi/lo moves (spec/43_multiply_divide.md).
  /-- `MFHI rd` (R215). -/
  | mfhi (rd : RegNo)
  /-- `MTHI rs` (R217). -/
  | mthi (rs : RegNo)
  /-- `MFLO rd` (R216). -/
  | mflo (rd : RegNo)
  /-- `MTLO rs` (R218). -/
  | mtlo (rs : RegNo)
  /-- `MULT rs, rt` (R211). -/
  | mult (rs : RegNo) (rt : RegNo)
  /-- `MULTU rs, rt` (R212). -/
  | multu (rs : RegNo) (rt : RegNo)
  /-- `DIV rs, rt` (R213). -/
  | div (rs : RegNo) (rt : RegNo)
  /-- `DIVU rs, rt` (R214). -/
  | divu (rs : RegNo) (rt : RegNo)
  -- Jumps and branches (spec/44_jumps_branches.md).
  /-- `J target` (R233). -/
  | j (target : BitVec 26)
  /-- `JAL target` (R234). -/
  | jal (target : BitVec 26)
  /-- `JR rs` (R235). -/
  | jr (rs : RegNo)
  /-- `JALR rd, rs` (R236). -/
  | jalr (rd : RegNo) (rs : RegNo)
  /-- `BEQ rs, rt, offset` (R238). -/
  | beq (rs : RegNo) (rt : RegNo) (imm : BitVec 16)
  /-- `BNE rs, rt, offset` (R239). -/
  | bne (rs : RegNo) (rt : RegNo) (imm : BitVec 16)
  /-- `BLEZ rs, offset` (R240). -/
  | blez (rs : RegNo) (imm : BitVec 16)
  /-- `BGTZ rs, offset` (R241). -/
  | bgtz (rs : RegNo) (imm : BitVec 16)
  /-- `BEQL rs, rt, offset` (R245). -/
  | beql (rs : RegNo) (rt : RegNo) (imm : BitVec 16)
  /-- `BNEL rs, rt, offset` (R246). -/
  | bnel (rs : RegNo) (rt : RegNo) (imm : BitVec 16)
  /-- `BLEZL rs, offset` (R247). -/
  | blezl (rs : RegNo) (imm : BitVec 16)
  /-- `BGTZL rs, offset` (R248). -/
  | bgtzl (rs : RegNo) (imm : BitVec 16)
  /-- `BLTZ rs, offset` (R242). -/
  | bltz (rs : RegNo) (imm : BitVec 16)
  /-- `BGEZ rs, offset` (R243). -/
  | bgez (rs : RegNo) (imm : BitVec 16)
  /-- `BLTZL rs, offset` (R253). -/
  | bltzl (rs : RegNo) (imm : BitVec 16)
  /-- `BGEZL rs, offset` (R254). -/
  | bgezl (rs : RegNo) (imm : BitVec 16)
  /-- `BLTZAL rs, offset` (R249). -/
  | bltzal (rs : RegNo) (imm : BitVec 16)
  /-- `BGEZAL rs, offset` (R250). -/
  | bgezal (rs : RegNo) (imm : BitVec 16)
  /-- `BLTZALL rs, offset` (R251). -/
  | bltzall (rs : RegNo) (imm : BitVec 16)
  /-- `BGEZALL rs, offset` (R252). -/
  | bgezall (rs : RegNo) (imm : BitVec 16)
  -- System coprocessor (spec/45_system_coprocessor.md).
  /-- `MFC0 rt, rd` (R271). -/
  | mfc0 (rt : RegNo) (rd : Cp0No)
  /-- `MTC0 rt, rd` (R272). -/
  | mtc0 (rt : RegNo) (rd : Cp0No)
  /-- `RFE` (R273). -/
  | rfe
  /-- `ICINV` (R274). -/
  | icinv
  -- System call, breakpoint and the unimplemented SYNC; `code` is bits 25:6 (spec/30_encoding.md R119).
  /-- `SYSCALL` (R275). -/
  | syscall (code : BitVec 20)
  /-- `BREAK` (R276). -/
  | breakpoint (code : BitVec 20)
  /-- `SYNC` (R277). -/
  | sync (code : BitVec 20)
  -- Major opcodes of the absent coprocessors; `bits` is bits 25:0 (spec/30_encoding.md R122).
  /-- `COP1_UNUSABLE_010001` (R281). -/
  | cop1Unusable010001 (bits : BitVec 26)
  /-- `COP1_UNUSABLE_110001` (R281). -/
  | cop1Unusable110001 (bits : BitVec 26)
  /-- `COP1_UNUSABLE_110101` (R281). -/
  | cop1Unusable110101 (bits : BitVec 26)
  /-- `COP1_UNUSABLE_111001` (R281). -/
  | cop1Unusable111001 (bits : BitVec 26)
  /-- `COP1_UNUSABLE_111101` (R281). -/
  | cop1Unusable111101 (bits : BitVec 26)
  /-- `COP2_UNUSABLE_010010` (R282). -/
  | cop2Unusable010010 (bits : BitVec 26)
  /-- `COP2_UNUSABLE_110010` (R282). -/
  | cop2Unusable110010 (bits : BitVec 26)
  /-- `COP2_UNUSABLE_110110` (R282). -/
  | cop2Unusable110110 (bits : BitVec 26)
  /-- `COP2_UNUSABLE_111010` (R282). -/
  | cop2Unusable111010 (bits : BitVec 26)
  /-- `COP2_UNUSABLE_111110` (R282). -/
  | cop2Unusable111110 (bits : BitVec 26)
  /-- `COP3_UNUSABLE_010011` (R282). -/
  | cop3Unusable010011 (bits : BitVec 26)
  /-- `COP3_UNUSABLE_110011` (R282). -/
  | cop3Unusable110011 (bits : BitVec 26)
  /-- `COP3_UNUSABLE_110111` (R282). -/
  | cop3Unusable110111 (bits : BitVec 26)
  /-- `COP3_UNUSABLE_111011` (R282). -/
  | cop3Unusable111011 (bits : BitVec 26)
  /-- `COP3_UNUSABLE_111111` (R282). -/
  | cop3Unusable111111 (bits : BitVec 26)
deriving DecidableEq, Repr

end Sys2Proof
end

