-- ==== Sys2Proof/WellFormed.lean ====
section
/-! DEFINITION. Well-formedness. Every term of Instr is well-formed by its types; what can be ill-formed is a WORD: a
word is well-formed when it agrees with the full pattern of a row of spec/30_encoding.md R117 (or of R122 for the
coprocessor-unusable opcodes), every printed zero included. The rows stand here as the spec prints them, apart from the
decoder, so that the two can be held against each other. -/

namespace Sys2Proof

/-- One row of spec/30_encoding.md R117: the mnemonic, the mask of the bits the charts decode on, the strict mask
and the value of the bits under the strict mask. -/
structure OpcodeRow where
  mnemonic : String
  chart : Word
  mask : Word
  pattern : Word
deriving DecidableEq, Repr

/-- The word falls in the row's chart cell (spec/30_encoding.md R110 step 1). -/
def OpcodeRow.selects (r : OpcodeRow) (w : Word) : Bool := w &&& r.chart == r.pattern &&& r.chart

/-- The word agrees with the row's full pattern (spec/30_encoding.md R110 step 3, R117). -/
def OpcodeRow.conforms (r : OpcodeRow) (w : Word) : Bool := w &&& r.mask == r.pattern

namespace OpcodeRow

def lb : OpcodeRow := ⟨"LB", 0xfc000000#32, 0xfc000000#32, 0x80000000#32⟩
def lh : OpcodeRow := ⟨"LH", 0xfc000000#32, 0xfc000000#32, 0x84000000#32⟩
def lw : OpcodeRow := ⟨"LW", 0xfc000000#32, 0xfc000000#32, 0x8c000000#32⟩
def lbu : OpcodeRow := ⟨"LBU", 0xfc000000#32, 0xfc000000#32, 0x90000000#32⟩
def lhu : OpcodeRow := ⟨"LHU", 0xfc000000#32, 0xfc000000#32, 0x94000000#32⟩
def sb : OpcodeRow := ⟨"SB", 0xfc000000#32, 0xfc000000#32, 0xa0000000#32⟩
def sh : OpcodeRow := ⟨"SH", 0xfc000000#32, 0xfc000000#32, 0xa4000000#32⟩
def sw : OpcodeRow := ⟨"SW", 0xfc000000#32, 0xfc000000#32, 0xac000000#32⟩
def addi : OpcodeRow := ⟨"ADDI", 0xfc000000#32, 0xfc000000#32, 0x20000000#32⟩
def addiu : OpcodeRow := ⟨"ADDIU", 0xfc000000#32, 0xfc000000#32, 0x24000000#32⟩
def slti : OpcodeRow := ⟨"SLTI", 0xfc000000#32, 0xfc000000#32, 0x28000000#32⟩
def sltiu : OpcodeRow := ⟨"SLTIU", 0xfc000000#32, 0xfc000000#32, 0x2c000000#32⟩
def andi : OpcodeRow := ⟨"ANDI", 0xfc000000#32, 0xfc000000#32, 0x30000000#32⟩
def ori : OpcodeRow := ⟨"ORI", 0xfc000000#32, 0xfc000000#32, 0x34000000#32⟩
def xori : OpcodeRow := ⟨"XORI", 0xfc000000#32, 0xfc000000#32, 0x38000000#32⟩
def lui : OpcodeRow := ⟨"LUI", 0xfc000000#32, 0xffe00000#32, 0x3c000000#32⟩
def sll : OpcodeRow := ⟨"SLL", 0xfc00003f#32, 0xffe0003f#32, 0x00000000#32⟩
def srl : OpcodeRow := ⟨"SRL", 0xfc00003f#32, 0xffe0003f#32, 0x00000002#32⟩
def sra : OpcodeRow := ⟨"SRA", 0xfc00003f#32, 0xffe0003f#32, 0x00000003#32⟩
def sllv : OpcodeRow := ⟨"SLLV", 0xfc00003f#32, 0xfc0007ff#32, 0x00000004#32⟩
def srlv : OpcodeRow := ⟨"SRLV", 0xfc00003f#32, 0xfc0007ff#32, 0x00000006#32⟩
def srav : OpcodeRow := ⟨"SRAV", 0xfc00003f#32, 0xfc0007ff#32, 0x00000007#32⟩
def add : OpcodeRow := ⟨"ADD", 0xfc00003f#32, 0xfc0007ff#32, 0x00000020#32⟩
def addu : OpcodeRow := ⟨"ADDU", 0xfc00003f#32, 0xfc0007ff#32, 0x00000021#32⟩
def sub : OpcodeRow := ⟨"SUB", 0xfc00003f#32, 0xfc0007ff#32, 0x00000022#32⟩
def subu : OpcodeRow := ⟨"SUBU", 0xfc00003f#32, 0xfc0007ff#32, 0x00000023#32⟩
def and : OpcodeRow := ⟨"AND", 0xfc00003f#32, 0xfc0007ff#32, 0x00000024#32⟩
def or : OpcodeRow := ⟨"OR", 0xfc00003f#32, 0xfc0007ff#32, 0x00000025#32⟩
def xor : OpcodeRow := ⟨"XOR", 0xfc00003f#32, 0xfc0007ff#32, 0x00000026#32⟩
def nor : OpcodeRow := ⟨"NOR", 0xfc00003f#32, 0xfc0007ff#32, 0x00000027#32⟩
def slt : OpcodeRow := ⟨"SLT", 0xfc00003f#32, 0xfc0007ff#32, 0x0000002a#32⟩
def sltu : OpcodeRow := ⟨"SLTU", 0xfc00003f#32, 0xfc0007ff#32, 0x0000002b#32⟩
def mfhi : OpcodeRow := ⟨"MFHI", 0xfc00003f#32, 0xffff07ff#32, 0x00000010#32⟩
def mthi : OpcodeRow := ⟨"MTHI", 0xfc00003f#32, 0xfc1fffff#32, 0x00000011#32⟩
def mflo : OpcodeRow := ⟨"MFLO", 0xfc00003f#32, 0xffff07ff#32, 0x00000012#32⟩
def mtlo : OpcodeRow := ⟨"MTLO", 0xfc00003f#32, 0xfc1fffff#32, 0x00000013#32⟩
def mult : OpcodeRow := ⟨"MULT", 0xfc00003f#32, 0xfc00ffff#32, 0x00000018#32⟩
def multu : OpcodeRow := ⟨"MULTU", 0xfc00003f#32, 0xfc00ffff#32, 0x00000019#32⟩
def div : OpcodeRow := ⟨"DIV", 0xfc00003f#32, 0xfc00ffff#32, 0x0000001a#32⟩
def divu : OpcodeRow := ⟨"DIVU", 0xfc00003f#32, 0xfc00ffff#32, 0x0000001b#32⟩
def j : OpcodeRow := ⟨"J", 0xfc000000#32, 0xfc000000#32, 0x08000000#32⟩
def jal : OpcodeRow := ⟨"JAL", 0xfc000000#32, 0xfc000000#32, 0x0c000000#32⟩
def jr : OpcodeRow := ⟨"JR", 0xfc00003f#32, 0xfc1fffff#32, 0x00000008#32⟩
def jalr : OpcodeRow := ⟨"JALR", 0xfc00003f#32, 0xfc1f07ff#32, 0x00000009#32⟩
def beq : OpcodeRow := ⟨"BEQ", 0xfc000000#32, 0xfc000000#32, 0x10000000#32⟩
def bne : OpcodeRow := ⟨"BNE", 0xfc000000#32, 0xfc000000#32, 0x14000000#32⟩
def blez : OpcodeRow := ⟨"BLEZ", 0xfc000000#32, 0xfc1f0000#32, 0x18000000#32⟩
def bgtz : OpcodeRow := ⟨"BGTZ", 0xfc000000#32, 0xfc1f0000#32, 0x1c000000#32⟩
def beql : OpcodeRow := ⟨"BEQL", 0xfc000000#32, 0xfc000000#32, 0x50000000#32⟩
def bnel : OpcodeRow := ⟨"BNEL", 0xfc000000#32, 0xfc000000#32, 0x54000000#32⟩
def blezl : OpcodeRow := ⟨"BLEZL", 0xfc000000#32, 0xfc1f0000#32, 0x58000000#32⟩
def bgtzl : OpcodeRow := ⟨"BGTZL", 0xfc000000#32, 0xfc1f0000#32, 0x5c000000#32⟩
def bltz : OpcodeRow := ⟨"BLTZ", 0xfc1f0000#32, 0xfc1f0000#32, 0x04000000#32⟩
def bgez : OpcodeRow := ⟨"BGEZ", 0xfc1f0000#32, 0xfc1f0000#32, 0x04010000#32⟩
def bltzl : OpcodeRow := ⟨"BLTZL", 0xfc1f0000#32, 0xfc1f0000#32, 0x04020000#32⟩
def bgezl : OpcodeRow := ⟨"BGEZL", 0xfc1f0000#32, 0xfc1f0000#32, 0x04030000#32⟩
def bltzal : OpcodeRow := ⟨"BLTZAL", 0xfc1f0000#32, 0xfc1f0000#32, 0x04100000#32⟩
def bgezal : OpcodeRow := ⟨"BGEZAL", 0xfc1f0000#32, 0xfc1f0000#32, 0x04110000#32⟩
def bltzall : OpcodeRow := ⟨"BLTZALL", 0xfc1f0000#32, 0xfc1f0000#32, 0x04120000#32⟩
def bgezall : OpcodeRow := ⟨"BGEZALL", 0xfc1f0000#32, 0xfc1f0000#32, 0x04130000#32⟩
def mfc0 : OpcodeRow := ⟨"MFC0", 0xffe00000#32, 0xffe007ff#32, 0x40000000#32⟩
def mtc0 : OpcodeRow := ⟨"MTC0", 0xffe00000#32, 0xffe007ff#32, 0x40800000#32⟩
def rfe : OpcodeRow := ⟨"RFE", 0xfe00003f#32, 0xffffffff#32, 0x42000010#32⟩
def icinv : OpcodeRow := ⟨"ICINV", 0xfe00003f#32, 0xffffffff#32, 0x42000014#32⟩
def syscall : OpcodeRow := ⟨"SYSCALL", 0xfc00003f#32, 0xfc00003f#32, 0x0000000c#32⟩
def breakpoint : OpcodeRow := ⟨"BREAK", 0xfc00003f#32, 0xfc00003f#32, 0x0000000d#32⟩
def sync : OpcodeRow := ⟨"SYNC", 0xfc00003f#32, 0xfc00003f#32, 0x0000000f#32⟩
def cop1Unusable010001 : OpcodeRow := ⟨"COP1_UNUSABLE_010001", 0xfc000000#32, 0xfc000000#32, 0x44000000#32⟩
def cop1Unusable110001 : OpcodeRow := ⟨"COP1_UNUSABLE_110001", 0xfc000000#32, 0xfc000000#32, 0xc4000000#32⟩
def cop1Unusable110101 : OpcodeRow := ⟨"COP1_UNUSABLE_110101", 0xfc000000#32, 0xfc000000#32, 0xd4000000#32⟩
def cop1Unusable111001 : OpcodeRow := ⟨"COP1_UNUSABLE_111001", 0xfc000000#32, 0xfc000000#32, 0xe4000000#32⟩
def cop1Unusable111101 : OpcodeRow := ⟨"COP1_UNUSABLE_111101", 0xfc000000#32, 0xfc000000#32, 0xf4000000#32⟩
def cop2Unusable010010 : OpcodeRow := ⟨"COP2_UNUSABLE_010010", 0xfc000000#32, 0xfc000000#32, 0x48000000#32⟩
def cop2Unusable110010 : OpcodeRow := ⟨"COP2_UNUSABLE_110010", 0xfc000000#32, 0xfc000000#32, 0xc8000000#32⟩
def cop2Unusable110110 : OpcodeRow := ⟨"COP2_UNUSABLE_110110", 0xfc000000#32, 0xfc000000#32, 0xd8000000#32⟩
def cop2Unusable111010 : OpcodeRow := ⟨"COP2_UNUSABLE_111010", 0xfc000000#32, 0xfc000000#32, 0xe8000000#32⟩
def cop2Unusable111110 : OpcodeRow := ⟨"COP2_UNUSABLE_111110", 0xfc000000#32, 0xfc000000#32, 0xf8000000#32⟩
def cop3Unusable010011 : OpcodeRow := ⟨"COP3_UNUSABLE_010011", 0xfc000000#32, 0xfc000000#32, 0x4c000000#32⟩
def cop3Unusable110011 : OpcodeRow := ⟨"COP3_UNUSABLE_110011", 0xfc000000#32, 0xfc000000#32, 0xcc000000#32⟩
def cop3Unusable110111 : OpcodeRow := ⟨"COP3_UNUSABLE_110111", 0xfc000000#32, 0xfc000000#32, 0xdc000000#32⟩
def cop3Unusable111011 : OpcodeRow := ⟨"COP3_UNUSABLE_111011", 0xfc000000#32, 0xfc000000#32, 0xec000000#32⟩
def cop3Unusable111111 : OpcodeRow := ⟨"COP3_UNUSABLE_111111", 0xfc000000#32, 0xfc000000#32, 0xfc000000#32⟩

end OpcodeRow

def opcodeRowsLoadStore : List OpcodeRow :=
  [.lb, .lh, .lw, .lbu, .lhu, .sb, .sh, .sw]

def opcodeRowsImmediate : List OpcodeRow :=
  [.addi, .addiu, .slti, .sltiu, .andi, .ori, .xori, .lui]

def opcodeRowsRegister : List OpcodeRow :=
  [.sll, .srl, .sra, .sllv, .srlv, .srav, .add, .addu, .sub, .subu, .and, .or, .xor, .nor, .slt, .sltu]

def opcodeRowsMulDiv : List OpcodeRow :=
  [.mfhi, .mthi, .mflo, .mtlo, .mult, .multu, .div, .divu]

def opcodeRowsJumpBranch : List OpcodeRow :=
  [.j, .jal, .jr, .jalr, .beq, .bne, .blez, .bgtz, .beql, .bnel, .blezl, .bgtzl, .bltz, .bgez, .bltzl, .bgezl,
    .bltzal, .bgezal, .bltzall, .bgezall]

def opcodeRowsSystem : List OpcodeRow :=
  [.mfc0, .mtc0, .rfe, .icinv, .syscall, .breakpoint, .sync]

def opcodeRowsUnusable : List OpcodeRow :=
  [.cop1Unusable010001, .cop1Unusable110001, .cop1Unusable110101, .cop1Unusable111001, .cop1Unusable111101,
    .cop2Unusable010010, .cop2Unusable110010, .cop2Unusable110110, .cop2Unusable111010, .cop2Unusable111110,
    .cop3Unusable010011, .cop3Unusable110011, .cop3Unusable110111, .cop3Unusable111011, .cop3Unusable111111]

/-- The 82 rows of spec/opcode_table.json. -/
def opcodeRows : List OpcodeRow :=
  opcodeRowsLoadStore ++ opcodeRowsImmediate ++ opcodeRowsRegister ++ opcodeRowsMulDiv ++
    opcodeRowsJumpBranch ++ opcodeRowsSystem ++ opcodeRowsUnusable

/-- The word is an instruction's: some row's full pattern fits it. -/
def wellFormedWord (w : Word) : Bool := opcodeRows.any (·.conforms w)

/-- The row of an instruction. -/
def Instr.row : Instr → OpcodeRow
  | .lb _ _ _ => .lb
  | .lh _ _ _ => .lh
  | .lw _ _ _ => .lw
  | .lbu _ _ _ => .lbu
  | .lhu _ _ _ => .lhu
  | .sb _ _ _ => .sb
  | .sh _ _ _ => .sh
  | .sw _ _ _ => .sw
  | .addi _ _ _ => .addi
  | .addiu _ _ _ => .addiu
  | .slti _ _ _ => .slti
  | .sltiu _ _ _ => .sltiu
  | .andi _ _ _ => .andi
  | .ori _ _ _ => .ori
  | .xori _ _ _ => .xori
  | .lui _ _ => .lui
  | .sll _ _ _ => .sll
  | .srl _ _ _ => .srl
  | .sra _ _ _ => .sra
  | .sllv _ _ _ => .sllv
  | .srlv _ _ _ => .srlv
  | .srav _ _ _ => .srav
  | .add _ _ _ => .add
  | .addu _ _ _ => .addu
  | .sub _ _ _ => .sub
  | .subu _ _ _ => .subu
  | .and _ _ _ => .and
  | .or _ _ _ => .or
  | .xor _ _ _ => .xor
  | .nor _ _ _ => .nor
  | .slt _ _ _ => .slt
  | .sltu _ _ _ => .sltu
  | .mfhi _ => .mfhi
  | .mthi _ => .mthi
  | .mflo _ => .mflo
  | .mtlo _ => .mtlo
  | .mult _ _ => .mult
  | .multu _ _ => .multu
  | .div _ _ => .div
  | .divu _ _ => .divu
  | .j _ => .j
  | .jal _ => .jal
  | .jr _ => .jr
  | .jalr _ _ => .jalr
  | .beq _ _ _ => .beq
  | .bne _ _ _ => .bne
  | .blez _ _ => .blez
  | .bgtz _ _ => .bgtz
  | .beql _ _ _ => .beql
  | .bnel _ _ _ => .bnel
  | .blezl _ _ => .blezl
  | .bgtzl _ _ => .bgtzl
  | .bltz _ _ => .bltz
  | .bgez _ _ => .bgez
  | .bltzl _ _ => .bltzl
  | .bgezl _ _ => .bgezl
  | .bltzal _ _ => .bltzal
  | .bgezal _ _ => .bgezal
  | .bltzall _ _ => .bltzall
  | .bgezall _ _ => .bgezall
  | .mfc0 _ _ => .mfc0
  | .mtc0 _ _ => .mtc0
  | .rfe => .rfe
  | .icinv => .icinv
  | .syscall _ => .syscall
  | .breakpoint _ => .breakpoint
  | .sync _ => .sync
  | .cop1Unusable010001 _ => .cop1Unusable010001
  | .cop1Unusable110001 _ => .cop1Unusable110001
  | .cop1Unusable110101 _ => .cop1Unusable110101
  | .cop1Unusable111001 _ => .cop1Unusable111001
  | .cop1Unusable111101 _ => .cop1Unusable111101
  | .cop2Unusable010010 _ => .cop2Unusable010010
  | .cop2Unusable110010 _ => .cop2Unusable110010
  | .cop2Unusable110110 _ => .cop2Unusable110110
  | .cop2Unusable111010 _ => .cop2Unusable111010
  | .cop2Unusable111110 _ => .cop2Unusable111110
  | .cop3Unusable010011 _ => .cop3Unusable010011
  | .cop3Unusable110011 _ => .cop3Unusable110011
  | .cop3Unusable110111 _ => .cop3Unusable110111
  | .cop3Unusable111011 _ => .cop3Unusable111011
  | .cop3Unusable111111 _ => .cop3Unusable111111

end Sys2Proof
end

