-- ==== Sys2Proof/Decode.lean ====
section
/-! DEFINITION. The decoder, total on words and on byte strings, and the encoder (spec/30_encoding.md R100 to R122).
decode follows the procedure of R110: the charts R111 to R115 select a cell on op, funct, rt or rs, then the cell's
should-be-zero fields are tested. -/

namespace Sys2Proof

/-- What a word decodes to. Every word is in exactly one case (spec/30_encoding.md R110). -/
inductive Decoded where
  /-- The word agrees with an instruction's full pattern (R110 step 3). -/
  | instr (i : Instr)
  /-- The word selects the instruction's cell with a should-be-zero field that is not zero (R118). `i` is the
  instruction with those fields taken as zero. -/
  | shouldBeZero (i : Instr)
  /-- A cell marked `*`: a reserved instruction (R120). -/
  | reserved
  /-- A cell marked as illegal among the COP0 words (R121). -/
  | illegalCop0
deriving DecidableEq, Repr

/-! ### Fields (R101 to R103) -/

def opField (w : Word) : BitVec 6 := w.extractLsb' 26 6
def rsField (w : Word) : BitVec 5 := w.extractLsb' 21 5
def rtField (w : Word) : BitVec 5 := w.extractLsb' 16 5
def rdField (w : Word) : BitVec 5 := w.extractLsb' 11 5
def shamtField (w : Word) : BitVec 5 := w.extractLsb' 6 5
def functField (w : Word) : BitVec 6 := w.extractLsb' 0 6
def immField (w : Word) : BitVec 16 := w.extractLsb' 0 16
def targetField (w : Word) : BitVec 26 := w.extractLsb' 0 26
/-- Bits 25:6 of SYSCALL, BREAK and SYNC (R119). -/
def codeField (w : Word) : BitVec 20 := w.extractLsb' 6 20

/-- The instruction if the should-be-zero test holds, else the should-be-zero case (R110 step 3, R118). -/
def whenZero (zero : Bool) (i : Instr) : Decoded := if zero then .instr i else .shouldBeZero i

/-! ### The charts -/

/-- The SPECIAL function chart, on funct (R112). -/
def decodeSpecial (w : Word) : Decoded :=
  match functField w with
  | 0x00#6 => whenZero (rsField w == 0#5) (.sll (rdField w) (rtField w) (shamtField w))
  | 0x02#6 => whenZero (rsField w == 0#5) (.srl (rdField w) (rtField w) (shamtField w))
  | 0x03#6 => whenZero (rsField w == 0#5) (.sra (rdField w) (rtField w) (shamtField w))
  | 0x04#6 => whenZero (shamtField w == 0#5) (.sllv (rdField w) (rtField w) (rsField w))
  | 0x06#6 => whenZero (shamtField w == 0#5) (.srlv (rdField w) (rtField w) (rsField w))
  | 0x07#6 => whenZero (shamtField w == 0#5) (.srav (rdField w) (rtField w) (rsField w))
  | 0x08#6 => whenZero (rtField w == 0#5 && rdField w == 0#5 && shamtField w == 0#5) (.jr (rsField w))
  | 0x09#6 => whenZero (rtField w == 0#5 && shamtField w == 0#5) (.jalr (rdField w) (rsField w))
  | 0x0c#6 => .instr (.syscall (codeField w))
  | 0x0d#6 => .instr (.breakpoint (codeField w))
  | 0x0f#6 => .instr (.sync (codeField w))
  | 0x10#6 => whenZero (rsField w == 0#5 && rtField w == 0#5 && shamtField w == 0#5) (.mfhi (rdField w))
  | 0x11#6 => whenZero (rtField w == 0#5 && rdField w == 0#5 && shamtField w == 0#5) (.mthi (rsField w))
  | 0x12#6 => whenZero (rsField w == 0#5 && rtField w == 0#5 && shamtField w == 0#5) (.mflo (rdField w))
  | 0x13#6 => whenZero (rtField w == 0#5 && rdField w == 0#5 && shamtField w == 0#5) (.mtlo (rsField w))
  | 0x18#6 => whenZero (rdField w == 0#5 && shamtField w == 0#5) (.mult (rsField w) (rtField w))
  | 0x19#6 => whenZero (rdField w == 0#5 && shamtField w == 0#5) (.multu (rsField w) (rtField w))
  | 0x1a#6 => whenZero (rdField w == 0#5 && shamtField w == 0#5) (.div (rsField w) (rtField w))
  | 0x1b#6 => whenZero (rdField w == 0#5 && shamtField w == 0#5) (.divu (rsField w) (rtField w))
  | 0x20#6 => whenZero (shamtField w == 0#5) (.add (rdField w) (rsField w) (rtField w))
  | 0x21#6 => whenZero (shamtField w == 0#5) (.addu (rdField w) (rsField w) (rtField w))
  | 0x22#6 => whenZero (shamtField w == 0#5) (.sub (rdField w) (rsField w) (rtField w))
  | 0x23#6 => whenZero (shamtField w == 0#5) (.subu (rdField w) (rsField w) (rtField w))
  | 0x24#6 => whenZero (shamtField w == 0#5) (.and (rdField w) (rsField w) (rtField w))
  | 0x25#6 => whenZero (shamtField w == 0#5) (.or (rdField w) (rsField w) (rtField w))
  | 0x26#6 => whenZero (shamtField w == 0#5) (.xor (rdField w) (rsField w) (rtField w))
  | 0x27#6 => whenZero (shamtField w == 0#5) (.nor (rdField w) (rsField w) (rtField w))
  | 0x2a#6 => whenZero (shamtField w == 0#5) (.slt (rdField w) (rsField w) (rtField w))
  | 0x2b#6 => whenZero (shamtField w == 0#5) (.sltu (rdField w) (rsField w) (rtField w))
  | _ => .reserved

/-- The REGIMM chart, on rt (R113). -/
def decodeRegimm (w : Word) : Decoded :=
  match rtField w with
  | 0x00#5 => .instr (.bltz (rsField w) (immField w))
  | 0x01#5 => .instr (.bgez (rsField w) (immField w))
  | 0x02#5 => .instr (.bltzl (rsField w) (immField w))
  | 0x03#5 => .instr (.bgezl (rsField w) (immField w))
  | 0x10#5 => .instr (.bltzal (rsField w) (immField w))
  | 0x11#5 => .instr (.bgezal (rsField w) (immField w))
  | 0x12#5 => .instr (.bltzall (rsField w) (immField w))
  | 0x13#5 => .instr (.bgezall (rsField w) (immField w))
  | _ => .reserved

/-- The COP0 function chart, on funct, for rs with bit 25 set (R115). Table 4 gives rs = 10000; another rs of these rows
is a should-be-zero violation (R114, R118). -/
def decodeCop0Function (w : Word) : Decoded :=
  let zero := rsField w == 0x10#5 && rtField w == 0#5 && rdField w == 0#5 && shamtField w == 0#5
  match functField w with
  | 0x10#6 => whenZero zero .rfe
  | 0x14#6 => whenZero zero .icinv
  | _ => .illegalCop0

/-- The COP0 rs chart (R114). The usability test that R110 puts before it is a matter of the mode, and is made where
the word is run. -/
def decodeCop0 (w : Word) : Decoded :=
  if (rsField w).msb then decodeCop0Function w
  else
    match rsField w with
    | 0x00#5 => whenZero (shamtField w == 0#5 && functField w == 0#6) (.mfc0 (rtField w) (rdField w))
    | 0x04#5 => whenZero (shamtField w == 0#5 && functField w == 0#6) (.mtc0 (rtField w) (rdField w))
    | _ => .illegalCop0

/-- The major opcode chart (R111). -/
def decode (w : Word) : Decoded :=
  match opField w with
  | 0x00#6 => decodeSpecial w
  | 0x01#6 => decodeRegimm w
  | 0x02#6 => .instr (.j (targetField w))
  | 0x03#6 => .instr (.jal (targetField w))
  | 0x04#6 => .instr (.beq (rsField w) (rtField w) (immField w))
  | 0x05#6 => .instr (.bne (rsField w) (rtField w) (immField w))
  | 0x06#6 => whenZero (rtField w == 0#5) (.blez (rsField w) (immField w))
  | 0x07#6 => whenZero (rtField w == 0#5) (.bgtz (rsField w) (immField w))
  | 0x08#6 => .instr (.addi (rtField w) (rsField w) (immField w))
  | 0x09#6 => .instr (.addiu (rtField w) (rsField w) (immField w))
  | 0x0a#6 => .instr (.slti (rtField w) (rsField w) (immField w))
  | 0x0b#6 => .instr (.sltiu (rtField w) (rsField w) (immField w))
  | 0x0c#6 => .instr (.andi (rtField w) (rsField w) (immField w))
  | 0x0d#6 => .instr (.ori (rtField w) (rsField w) (immField w))
  | 0x0e#6 => .instr (.xori (rtField w) (rsField w) (immField w))
  | 0x0f#6 => whenZero (rsField w == 0#5) (.lui (rtField w) (immField w))
  | 0x10#6 => decodeCop0 w
  | 0x11#6 => .instr (.cop1Unusable010001 (targetField w))
  | 0x12#6 => .instr (.cop2Unusable010010 (targetField w))
  | 0x13#6 => .instr (.cop3Unusable010011 (targetField w))
  | 0x14#6 => .instr (.beql (rsField w) (rtField w) (immField w))
  | 0x15#6 => .instr (.bnel (rsField w) (rtField w) (immField w))
  | 0x16#6 => whenZero (rtField w == 0#5) (.blezl (rsField w) (immField w))
  | 0x17#6 => whenZero (rtField w == 0#5) (.bgtzl (rsField w) (immField w))
  | 0x20#6 => .instr (.lb (rtField w) (rsField w) (immField w))
  | 0x21#6 => .instr (.lh (rtField w) (rsField w) (immField w))
  | 0x23#6 => .instr (.lw (rtField w) (rsField w) (immField w))
  | 0x24#6 => .instr (.lbu (rtField w) (rsField w) (immField w))
  | 0x25#6 => .instr (.lhu (rtField w) (rsField w) (immField w))
  | 0x28#6 => .instr (.sb (rtField w) (rsField w) (immField w))
  | 0x29#6 => .instr (.sh (rtField w) (rsField w) (immField w))
  | 0x2b#6 => .instr (.sw (rtField w) (rsField w) (immField w))
  | 0x31#6 => .instr (.cop1Unusable110001 (targetField w))
  | 0x32#6 => .instr (.cop2Unusable110010 (targetField w))
  | 0x33#6 => .instr (.cop3Unusable110011 (targetField w))
  | 0x35#6 => .instr (.cop1Unusable110101 (targetField w))
  | 0x36#6 => .instr (.cop2Unusable110110 (targetField w))
  | 0x37#6 => .instr (.cop3Unusable110111 (targetField w))
  | 0x39#6 => .instr (.cop1Unusable111001 (targetField w))
  | 0x3a#6 => .instr (.cop2Unusable111010 (targetField w))
  | 0x3b#6 => .instr (.cop3Unusable111011 (targetField w))
  | 0x3d#6 => .instr (.cop1Unusable111101 (targetField w))
  | 0x3e#6 => .instr (.cop2Unusable111110 (targetField w))
  | 0x3f#6 => .instr (.cop3Unusable111111 (targetField w))
  | _ => .reserved

/-! ### Bytes -/

/-- The word whose bytes, from the lowest address up, are b0 to b3: big-endian (spec/20_memory.md R74, R80). -/
def wordOfBytes (b0 b1 b2 b3 : Byte) : Word := b0 ++ b1 ++ b2 ++ b3

/-- The four bytes of a word, the one at the lowest address first (spec/20_memory.md R75). -/
def bytesOfWord (w : Word) : List Byte :=
  [w.extractLsb' 24 8, w.extractLsb' 16 8, w.extractLsb' 8 8, w.extractLsb' 0 8]

/-- Decode the instruction at the head of a byte string; none when there are fewer than the four bytes every
instruction has (R100). -/
def decodeBytes : List Byte → Option Decoded
  | b0 :: b1 :: b2 :: b3 :: _ => some (decode (wordOfBytes b0 b1 b2 b3))
  | _ => none

/-- The instruction the decoder reads from an opcode-table word of `nbits` bits. -/
def decodeTableWord (nbits w : Nat) : Option Instr :=
  match decodeBytes (bytesOfWord (BitVec.ofNat 32 (w % 2 ^ nbits))) with
  | some (.instr i) => some i
  | _ => none

/-! ### The encoder (R101 to R104, R117) -/

def rType (op : BitVec 6) (rs rt rd shamt : BitVec 5) (funct : BitVec 6) : Word :=
  op ++ rs ++ rt ++ rd ++ shamt ++ funct

def iType (op : BitVec 6) (rs rt : BitVec 5) (imm : BitVec 16) : Word := op ++ rs ++ rt ++ imm

def jType (op : BitVec 6) (target : BitVec 26) : Word := op ++ target

/-- SYSCALL, BREAK and SYNC: op and funct around 20 free bits (R119). -/
def codeType (op : BitVec 6) (code : BitVec 20) (funct : BitVec 6) : Word := op ++ code ++ funct

/-- The word of an instruction (R117). -/
def encode : Instr → Word
  | .lb rt rs imm => iType 0x20#6 rs rt imm
  | .lh rt rs imm => iType 0x21#6 rs rt imm
  | .lw rt rs imm => iType 0x23#6 rs rt imm
  | .lbu rt rs imm => iType 0x24#6 rs rt imm
  | .lhu rt rs imm => iType 0x25#6 rs rt imm
  | .sb rt rs imm => iType 0x28#6 rs rt imm
  | .sh rt rs imm => iType 0x29#6 rs rt imm
  | .sw rt rs imm => iType 0x2b#6 rs rt imm
  | .addi rt rs imm => iType 0x08#6 rs rt imm
  | .addiu rt rs imm => iType 0x09#6 rs rt imm
  | .slti rt rs imm => iType 0x0a#6 rs rt imm
  | .sltiu rt rs imm => iType 0x0b#6 rs rt imm
  | .andi rt rs imm => iType 0x0c#6 rs rt imm
  | .ori rt rs imm => iType 0x0d#6 rs rt imm
  | .xori rt rs imm => iType 0x0e#6 rs rt imm
  | .lui rt imm => iType 0x0f#6 0x00#5 rt imm
  | .sll rd rt shamt => rType 0x00#6 0x00#5 rt rd shamt 0x00#6
  | .srl rd rt shamt => rType 0x00#6 0x00#5 rt rd shamt 0x02#6
  | .sra rd rt shamt => rType 0x00#6 0x00#5 rt rd shamt 0x03#6
  | .sllv rd rt rs => rType 0x00#6 rs rt rd 0x00#5 0x04#6
  | .srlv rd rt rs => rType 0x00#6 rs rt rd 0x00#5 0x06#6
  | .srav rd rt rs => rType 0x00#6 rs rt rd 0x00#5 0x07#6
  | .add rd rs rt => rType 0x00#6 rs rt rd 0x00#5 0x20#6
  | .addu rd rs rt => rType 0x00#6 rs rt rd 0x00#5 0x21#6
  | .sub rd rs rt => rType 0x00#6 rs rt rd 0x00#5 0x22#6
  | .subu rd rs rt => rType 0x00#6 rs rt rd 0x00#5 0x23#6
  | .and rd rs rt => rType 0x00#6 rs rt rd 0x00#5 0x24#6
  | .or rd rs rt => rType 0x00#6 rs rt rd 0x00#5 0x25#6
  | .xor rd rs rt => rType 0x00#6 rs rt rd 0x00#5 0x26#6
  | .nor rd rs rt => rType 0x00#6 rs rt rd 0x00#5 0x27#6
  | .slt rd rs rt => rType 0x00#6 rs rt rd 0x00#5 0x2a#6
  | .sltu rd rs rt => rType 0x00#6 rs rt rd 0x00#5 0x2b#6
  | .mfhi rd => rType 0x00#6 0x00#5 0x00#5 rd 0x00#5 0x10#6
  | .mthi rs => rType 0x00#6 rs 0x00#5 0x00#5 0x00#5 0x11#6
  | .mflo rd => rType 0x00#6 0x00#5 0x00#5 rd 0x00#5 0x12#6
  | .mtlo rs => rType 0x00#6 rs 0x00#5 0x00#5 0x00#5 0x13#6
  | .mult rs rt => rType 0x00#6 rs rt 0x00#5 0x00#5 0x18#6
  | .multu rs rt => rType 0x00#6 rs rt 0x00#5 0x00#5 0x19#6
  | .div rs rt => rType 0x00#6 rs rt 0x00#5 0x00#5 0x1a#6
  | .divu rs rt => rType 0x00#6 rs rt 0x00#5 0x00#5 0x1b#6
  | .j target => jType 0x02#6 target
  | .jal target => jType 0x03#6 target
  | .jr rs => rType 0x00#6 rs 0x00#5 0x00#5 0x00#5 0x08#6
  | .jalr rd rs => rType 0x00#6 rs 0x00#5 rd 0x00#5 0x09#6
  | .beq rs rt imm => iType 0x04#6 rs rt imm
  | .bne rs rt imm => iType 0x05#6 rs rt imm
  | .blez rs imm => iType 0x06#6 rs 0x00#5 imm
  | .bgtz rs imm => iType 0x07#6 rs 0x00#5 imm
  | .beql rs rt imm => iType 0x14#6 rs rt imm
  | .bnel rs rt imm => iType 0x15#6 rs rt imm
  | .blezl rs imm => iType 0x16#6 rs 0x00#5 imm
  | .bgtzl rs imm => iType 0x17#6 rs 0x00#5 imm
  | .bltz rs imm => iType 0x01#6 rs 0x00#5 imm
  | .bgez rs imm => iType 0x01#6 rs 0x01#5 imm
  | .bltzl rs imm => iType 0x01#6 rs 0x02#5 imm
  | .bgezl rs imm => iType 0x01#6 rs 0x03#5 imm
  | .bltzal rs imm => iType 0x01#6 rs 0x10#5 imm
  | .bgezal rs imm => iType 0x01#6 rs 0x11#5 imm
  | .bltzall rs imm => iType 0x01#6 rs 0x12#5 imm
  | .bgezall rs imm => iType 0x01#6 rs 0x13#5 imm
  | .mfc0 rt rd => rType 0x10#6 0x00#5 rt rd 0x00#5 0x00#6
  | .mtc0 rt rd => rType 0x10#6 0x04#5 rt rd 0x00#5 0x00#6
  | .rfe => rType 0x10#6 0x10#5 0x00#5 0x00#5 0x00#5 0x10#6
  | .icinv => rType 0x10#6 0x10#5 0x00#5 0x00#5 0x00#5 0x14#6
  | .syscall code => codeType 0x00#6 code 0x0c#6
  | .breakpoint code => codeType 0x00#6 code 0x0d#6
  | .sync code => codeType 0x00#6 code 0x0f#6
  | .cop1Unusable010001 bits => jType 0x11#6 bits
  | .cop1Unusable110001 bits => jType 0x31#6 bits
  | .cop1Unusable110101 bits => jType 0x35#6 bits
  | .cop1Unusable111001 bits => jType 0x39#6 bits
  | .cop1Unusable111101 bits => jType 0x3d#6 bits
  | .cop2Unusable010010 bits => jType 0x12#6 bits
  | .cop2Unusable110010 bits => jType 0x32#6 bits
  | .cop2Unusable110110 bits => jType 0x36#6 bits
  | .cop2Unusable111010 bits => jType 0x3a#6 bits
  | .cop2Unusable111110 bits => jType 0x3e#6 bits
  | .cop3Unusable010011 bits => jType 0x13#6 bits
  | .cop3Unusable110011 bits => jType 0x33#6 bits
  | .cop3Unusable110111 bits => jType 0x37#6 bits
  | .cop3Unusable111011 bits => jType 0x3b#6 bits
  | .cop3Unusable111111 bits => jType 0x3f#6 bits

end Sys2Proof
end

