-- ==== Sys2Proof/Config.lean ====
section
/-! DEFINITION. What an implementation or the platform fixes, and the values the spec leaves open
(spec/00_scope.md R7; spec/92_eei_decisions.md). The parameters are plain data, carried by State.params; the free
values are constants without a body, applied to the number of the step that draws them (log 38). -/

namespace Sys2Proof

/-- SBZ_POLICY: what a word does that selects an instruction's chart cell with a should-be-zero field that is not
zero (spec/30_encoding.md R118; D1). Log 11. -/
inductive SbzPolicy where
  /-- The word has no meaning. -/
  | refuse
  /-- The word executes as if the field were zero. -/
  | ignore
  /-- The word raises the reserved instruction exception. -/
  | ri
deriving DecidableEq, Repr

/-- ICACHE: what a fetch does at a word stored to since the last ICINV (spec/20_memory.md R90; D18). Log 12. -/
inductive ICachePolicy where
  /-- The fetch has no meaning. -/
  | refuseStale
  /-- The fetch returns the old word or the new one. -/
  | eitherWord
deriving DecidableEq, Repr

/-- The implementation parameters that no step changes (spec/00_scope.md R7). -/
structure Params where
  /-- PA_BITS: how many low address bits the memory controller decodes, 1 to 32 (spec/20_memory.md R73). -/
  paBits : Nat
  /-- INT_LATENCY: at how many instruction boundaries a pending enabled interrupt may be deferred; none, where the
  platform gives no bound: any finite number (spec/60_exceptions.md R312; D13). Log 45. -/
  intLatency : Option Nat
  /-- SBZ_POLICY. -/
  sbz : SbzPolicy
  /-- ICACHE. -/
  icache : ICachePolicy
deriving DecidableEq, Repr

/-- One thing the host test rig does between two instructions (spec/60_exceptions.md R340 to R343). -/
inductive HostAct where
  /-- The host replaces `fromhost` (R341). -/
  | writeFromhost (v : Byte)
  /-- The host sets or clears `cause.ip6` (R342). -/
  | writeIp6 (b : Bool)
  /-- The host reads `tohost` (R343): it changes nothing. -/
  | readTohost
deriving DecidableEq, Repr

/-- The bit positions the source's lost figures 4 and 5 would have shown; the spec asks for one configuration record
(spec/10_state.md R39, R47; D10). The record's value is `statusCauseLayout` in Machine/Flags.lean. Log 13, 14. -/
structure Layout where
  ieC : Nat
  kuC : Nat
  ieP : Nat
  kuP : Nat
  ieO : Nat
  kuO : Nat
  bd : Nat
  ceLo : Nat
  excCodeLo : Nat
deriving DecidableEq, Repr

/-- CYCLES: clock cycles that elapse in step S1 after the first one (spec/10_state.md R36; D11). Log 6. -/
opaque Config.extraCycles : Nat → Nat

/-- HOST: what the host does in step S1, in order (spec/60_exceptions.md R340). Log 7. -/
opaque Config.hostActs : Nat → List HostAct

/-- At how many boundaries an interrupt that begins to wait is deferred, before the bound INT_LATENCY
(spec/60_exceptions.md R312; D13). Log 8. -/
opaque Config.deferral : Nat → Nat

/-- The bits of `status` that hold no state, as MFC0 reads them (spec/10_state.md R45). Log 15. -/
opaque Config.statusUnusedBits : Nat → Word

/-- The bits of `cause` that hold no state, as MFC0 reads them (spec/10_state.md R47, R51). Log 16. -/
opaque Config.causeUnusedBits : Nat → Word

/-- What MFC0 reads from an unused CP0 register number (spec/10_state.md R33). Log 17. -/
opaque Config.cp0Unused : Nat → Cp0No → Word

/-- `cause.CE` after every exception other than CpU and after interrupts (spec/10_state.md R50). Log 21. -/
opaque Config.causeCe : Nat → BitVec 2

/-- `badvaddr` after every exception other than AdEL and AdES and after interrupts (spec/10_state.md R54). Log 21. -/
opaque Config.badVAddr : Nat → Word

/-- `cause.ip7` when an MTC0 itself makes `count` equal `compare` (spec/10_state.md R38). Log 20. -/
opaque Config.timerFlag : Nat → Bool

/-- `hi` after DIV or DIVU where the spec gives no result, for the dividend and divisor (spec/43_multiply_divide.md
R213, R214). Log 22. -/
opaque Config.divideHi : Nat → Word → Word → Word

/-- `lo` after DIV or DIVU where the spec gives no result, for the dividend and divisor (spec/43_multiply_divide.md
R213, R214). Log 22. -/
opaque Config.divideLo : Nat → Word → Word → Word

/-- Whether a fetch of a stale word returns the old word, when ICACHE is either-word (spec/20_memory.md R90).
Log 12. -/
opaque Config.fetchOldWord : Nat → Bool

end Sys2Proof
end

