-- ==== Sys2Proof/Machine/Memory.lean ====
section
/-! DEFINITION. Physical memory and the instruction cache's marks as plain data (spec/20_memory.md R70, R73, R88 to R90).
Both are association lists with strictly rising keys, so that equal contents are equal lists. -/

namespace Sys2Proof.Machine

/-- Physical memory: the bytes that differ from `unlistedByte`, by rising physical address. -/
abbrev Memory := List Host.Cell

/-- What a byte of memory that nothing has written reads as. The spec leaves memory undefined at reset
(spec/10_state.md R60). DESIGN CHOICE, log 4. -/
def unlistedByte : Byte := 0#8

/-- The byte at a physical address. -/
def Memory.read : Memory → Nat → Byte
  | [], _ => unlistedByte
  | (b, x) :: m, a => if b = a then x else Memory.read m a

/-- Put a cell at the head, unless it reads as an unlisted one would. -/
def Memory.consCell (a : Nat) (v : Byte) (m : Memory) : Memory := if v = unlistedByte then m else (a, v) :: m

/-- Store one byte, keeping the canonical form. -/
def Memory.write : Memory → Nat → Byte → Memory
  | [], a, v => Memory.consCell a v []
  | (b, x) :: m, a, v =>
    if a < b then Memory.consCell a v ((b, x) :: m)
    else if a = b then Memory.consCell a v m
    else (b, x) :: Memory.write m a v

/-- Store bytes at consecutive addresses from `a` up, each at the physical byte its address reaches
(spec/20_memory.md R73, R75). -/
def Memory.writeBytes (paBits : Nat) : Memory → Word → List Byte → Memory
  | m, _, [] => m
  | m, a, b :: bs => Memory.writeBytes paBits (Memory.write m (a.toNat % 2 ^ paBits) b) (a + 1#32) bs

/-- The memory that holds an image given as cells in any order, a later cell over an earlier one. Addresses are cut to
the decoded bits (spec/20_memory.md R73). -/
def Memory.ofImage (paBits : Nat) (image : List Host.Cell) : Memory :=
  image.foldl (fun m c => Memory.write m (c.1 % 2 ^ paBits) c.2) []

/-- Canonical from an address up: keys strictly rising and at least `lo`, no cell that reads as an unlisted one. -/
def Memory.wfFrom : Nat → Memory → Bool
  | _, [] => true
  | lo, (a, v) :: m => decide (lo ≤ a) && v != unlistedByte && Memory.wfFrom (a + 1) m

/-- The canonical form. -/
def Memory.wf (m : Memory) : Bool := Memory.wfFrom 0 m

/-- Every listed address is one the memory controller decodes (spec/20_memory.md R73). -/
def Memory.within (paBits : Nat) (m : Memory) : Bool := m.all fun c => decide (c.1 < 2 ^ paBits)

/-- The words stored to since the last ICINV, by physical word number, each with the word that stood there before the
first of those stores (spec/20_memory.md R90). Log 12. -/
abbrev Marks := List (Nat × Word)

/-- The old word of a marked word; none where there is no mark. -/
def Marks.lookup : Marks → Nat → Option Word
  | [], _ => none
  | (k, old) :: ms, n => if k = n then some old else Marks.lookup ms n

/-- Mark a word; a word already marked keeps its mark and its old word. -/
def Marks.add : Marks → Nat → Word → Marks
  | [], n, old => [(n, old)]
  | (k, o) :: ms, n, old =>
    if n < k then (n, old) :: (k, o) :: ms
    else if n = k then (k, o) :: ms
    else (k, o) :: Marks.add ms n old

/-- Take one word's mark away (used only where a program is placed from outside the machine). -/
def Marks.erase : Marks → Nat → Marks
  | [], _ => []
  | (k, o) :: ms, n => if k = n then ms else (k, o) :: Marks.erase ms n

/-- Keys strictly rising and at least `lo`. -/
def Marks.wfFrom : Nat → Marks → Bool
  | _, [] => true
  | lo, (k, _) :: ms => decide (lo ≤ k) && Marks.wfFrom (k + 1) ms

/-- The canonical form of the marks. -/
def Marks.wf (ms : Marks) : Bool := Marks.wfFrom 0 ms

end Sys2Proof.Machine
end

