-- ==== Sys2Proof/Machine/Registers.lean ====
section
/-! DEFINITION. The structured registers of CP0, what the outside gives a step, what the spec leaves undefined at reset,
and the fixed addresses (spec/10_state.md R31 to R60; spec/60_exceptions.md R319). -/

namespace Sys2Proof.Machine

/-- The storage bits of `status` (CP0 12). `CU[3:1]` are wired to 0 and the bits without a name hold no state
(spec/10_state.md R39 to R46). -/
structure Status where
  /-- `CU[0]`: CP0 is usable in user mode. -/
  cu0 : Bool
  /-- Timer interrupt enabled. -/
  im7 : Bool
  /-- Host interrupt enabled. -/
  im6 : Bool
  /-- Old operating mode. -/
  kuO : Bool
  /-- Old interrupt enable. -/
  ieO : Bool
  /-- Previous operating mode. -/
  kuP : Bool
  /-- Previous interrupt enable. -/
  ieP : Bool
  /-- Current operating mode: false kernel, true user. -/
  kuC : Bool
  /-- Current global interrupt enable. -/
  ieC : Bool
deriving DecidableEq, Repr

/-- The storage bits of `cause` (CP0 13) (spec/10_state.md R47 to R51). -/
structure Cause where
  /-- The excepting instruction was in a branch delay slot. -/
  bd : Bool
  /-- The coprocessor number of a CpU exception. -/
  ce : BitVec 2
  /-- Timer interrupt pending. -/
  ip7 : Bool
  /-- Host interrupt pending. -/
  ip6 : Bool
  /-- The exception type code. -/
  excCode : BitVec 5
deriving DecidableEq, Repr

/-- RESET_STATE: everything the spec calls undefined after reset, with the memory image the platform has loaded when
reset is released (spec/10_state.md R60; spec/70_reset_and_hazards.md R362, R364; D23). Log 9. -/
structure ResetState where
  regs : Vector Word 31
  hi : Word
  lo : Word
  badvaddr : Word
  count : Word
  compare : Word
  cu0 : Bool
  im7 : Bool
  im6 : Bool
  kuO : Bool
  ieO : Bool
  kuP : Bool
  ieP : Bool
  cause : Cause
  epc : Word
  fromhost : Byte
  image : List Host.Cell
deriving DecidableEq, Repr

/-- What the clock, the host and the reset pin do in one step (steps S1 to S3 of spec/10_state.md R29). -/
structure StepInput where
  /-- Clock cycles that elapse after the first one (R36; D11). -/
  extraCycles : Nat
  /-- What the host does, in order (spec/60_exceptions.md R340). -/
  acts : List HostAct
  /-- The external reset, with the state it leaves undefined (spec/70_reset_and_hazards.md R360). -/
  reset : Option ResetState
  /-- At how many boundaries an interrupt that begins to wait at this one is deferred, before the bound INT_LATENCY
  (spec/60_exceptions.md R312; D13). -/
  deferral : Nat
deriving DecidableEq, Repr

/-- The reset vector (spec/60_exceptions.md R319). -/
def resetVector : Word := 0x00001000#32

/-- The vector of every exception and interrupt (spec/60_exceptions.md R319). -/
def trapVector : Word := 0x00001100#32

/-- The parameters of State.reset: the defaults of spec/92_eei_decisions.md for PA_BITS and SBZ_POLICY, D13's default for
proofs for INT_LATENCY, and for ICACHE the value that refuses no fetch (spec/20_memory.md R90). DESIGN CHOICE, log 10, 11,
12, 45. -/
def defaultParams : Params := { paBits := 32, intLatency := none, sbz := .refuse, icache := .eitherWord }

/-- The values of State.reset for what the spec calls undefined: all zero, no image. DESIGN CHOICE, log 1, 2, 4. -/
def defaultResetState : ResetState :=
  { regs := Vector.replicate 31 0#32, hi := 0#32, lo := 0#32, badvaddr := 0#32, count := 0#32, compare := 0#32
    cu0 := false, im7 := false, im6 := false, kuO := false, ieO := false, kuP := false, ieP := false
    cause := { bd := false, ce := 0#2, ip7 := false, ip6 := false, excCode := 0#5 }
    epc := 0#32, fromhost := 0#8, image := [] }

end Sys2Proof.Machine
end

