-- ==== Sys2Proof/Machine/State.lean ====
section
/-! DEFINITION. The state of the MIPS-6371 as plain data, the reasons a step can stop, and the state after reset
(spec/10_state.md). INVENTORY.md lists every field with its rule and its reset value. -/

namespace Sys2Proof.Machine

/-- The ten exceptions and interrupts, with what they record beyond `epc` and `cause.BD` (spec/60_exceptions.md
R300). -/
inductive Exc where
  /-- The host interrupt. -/
  | hint
  /-- The timer interrupt. -/
  | tint
  /-- Address error on a load, with the address. -/
  | adEL (bad : Word)
  /-- Address error on a store, with the address. -/
  | adES (bad : Word)
  /-- Address error on a fetch. -/
  | adEF
  /-- SYSCALL. -/
  | sys
  /-- BREAK. -/
  | bp
  /-- Reserved instruction. -/
  | ri
  /-- Coprocessor unusable, with the coprocessor number. -/
  | cpU (z : BitVec 2)
  /-- Arithmetic overflow. -/
  | ov
deriving DecidableEq, Repr

/-- A pending enabled interrupt, and at how many boundaries it may yet be deferred (spec/60_exceptions.md R312; D13). At 0
it is taken. Log 46. -/
structure Waiting where
  interrupt : Exc
  left : Nat
deriving DecidableEq, Repr

/-- The machine. The first block is the spec's state, the second the model's own fields (INVENTORY.md, State). -/
structure State where
  /-- `r1` to `r31`; `r0` has no storage (R20, R21). -/
  regs : Vector Word 31
  /-- (R24) -/
  hi : Word
  /-- (R24) -/
  lo : Word
  /-- The address of the instruction about to execute (R27, R28). -/
  pc : Word
  /-- The address of the instruction that executes after it (R28). -/
  npc : Word
  /-- The instruction at `pc` stands in a branch delay slot (R28). -/
  ds : Bool
  /-- CP0 8 (R54). -/
  badvaddr : Word
  /-- CP0 9 (R36). -/
  count : Word
  /-- CP0 11 (R37). -/
  compare : Word
  /-- CP0 12 (R39 to R46). -/
  status : Status
  /-- CP0 13 (R47 to R52). -/
  cause : Cause
  /-- CP0 14 (R53). -/
  epc : Word
  /-- CP0 20 (R34). -/
  fromhost : Byte
  /-- CP0 21 (R35). -/
  tohost : Byte
  /-- Physical memory (spec/20_memory.md R70, R73). -/
  mem : Memory
  /-- The words stored to since the last ICINV (spec/20_memory.md R90). -/
  marks : Marks
  /-- The implementation parameters; no step changes them (spec/00_scope.md R7). Log 10, 11, 12, 45. -/
  params : Params
  /-- What the clock, the host and the reset pin do at the coming steps, the next step first; when empty the step
  draws free values. Log 40. -/
  inputs : List StepInput
  /-- How many steps have drawn free values. Log 38. -/
  draws : Nat
  /-- The interrupt that was pending and enabled at the last instruction boundary, with the rest of its deferral.
  Log 46. -/
  waiting : Option Waiting
deriving DecidableEq, Repr

/-- Reasons to stop with a fault. There are none: the spec has no halt, no lock-up, no bus error and no absent memory
(spec/20_memory.md R81; spec/60_exceptions.md R346); every exception is taken. Log 44. -/
inductive Fault where
deriving DecidableEq, Repr

/-- Reasons to give a step no meaning; each but the first is a REFUSE of the spec. All are safe: the model stops where
the hardware does something the spec does not state. -/
inductive Refusal where
  /-- Raised by exec alone, for an instruction without a meaning yet; no arm raises it in this model. Safe. -/
  | notModelled (mnemonic : String)
  /-- Raised by every jump and branch standing in a delay slot (spec/44_jumps_branches.md R255). Safe. Log 26. -/
  | branchInDelaySlot
  /-- Raised by the step for a COP0 word the charts mark illegal, when CP0 is usable (spec/30_encoding.md R121). Safe.
  Log 27. -/
  | illegalCop0
  /-- Raised by the step for a word with a should-be-zero field set, when SBZ_POLICY is refuse (spec/30_encoding.md
  R118). Safe. Log 11. -/
  | shouldBeZero
  /-- Raised by the step for a fetch from a word stored to since the last ICINV, when ICACHE is refuse-stale
  (spec/20_memory.md R90). Safe. Log 12. -/
  | staleFetch
deriving DecidableEq, Repr

/-- The three outcomes of a step of this machine. -/
abbrev Result := Host.Outcome State Fault Refusal

/-- The machine at the release of reset: what the spec fixes, and for the rest the given draw of RESET_STATE
(spec/10_state.md R60; spec/70_reset_and_hazards.md R360, R365). -/
def State.ofReset (p : Params) (r : ResetState) : State :=
  { regs := r.regs, hi := r.hi, lo := r.lo
    pc := resetVector, npc := resetVector + 4#32, ds := false
    badvaddr := r.badvaddr, count := r.count, compare := r.compare
    status := { cu0 := r.cu0, im7 := r.im7, im6 := r.im6, kuO := r.kuO, ieO := r.ieO, kuP := r.kuP, ieP := r.ieP,
                kuC := false, ieC := false }
    cause := r.cause, epc := r.epc, fromhost := r.fromhost, tohost := 0#8
    mem := Memory.ofImage p.paBits r.image, marks := []
    params := p, inputs := [], draws := 0, waiting := none }

/-- The machine right after reset. -/
def State.reset : State := State.ofReset defaultParams defaultResetState

end Sys2Proof.Machine
end

