-- ==== Sys2Proof/Machine/Flags.lean ====
section
/-! DEFINITION. The MIPS-6371 has no condition flags (spec/10_state.md R57). What stands here is the overflow test of
ADD, ADDI and SUB, the KU/IE stack, and the images of `status` and `cause` in a 32-bit word. -/

namespace Sys2Proof.Machine

/-! ### Overflow (R161, R181, R183) -/

/-- An exact result that a signed 32-bit word cannot hold. -/
def outOfRange (r : Int) : Bool := decide (r < -2 ^ 31) || decide (r > 2 ^ 31 - 1)

/-- ADD and ADDI overflow (R161, R181). -/
def addOverflows (a b : Word) : Bool := outOfRange (a.toInt + b.toInt)

/-- SUB overflows (R183). -/
def subOverflows (a b : Word) : Bool := outOfRange (a.toInt - b.toInt)

/-! ### The KU/IE stack -/

/-- Trap entry pushes kernel mode with interrupts disabled (spec/10_state.md R43). -/
def Status.push (st : Status) : Status :=
  { st with kuO := st.kuP, ieO := st.ieP, kuP := st.kuC, ieP := st.ieC, kuC := false, ieC := false }

/-- RFE pops; the old pair keeps its values (spec/10_state.md R44). -/
def Status.pop (st : Status) : Status :=
  { st with kuC := st.kuP, ieC := st.ieP, kuP := st.kuO, ieP := st.ieO }

/-! ### Images -/

/-- The bit positions the source's lost figures would have shown (spec/10_state.md R39, R47). PRESUMED: the MIPS R3000
layout that the spec's G1, G2 and D10 take. Log 13, 14. -/
def statusCauseLayout : Layout :=
  { ieC := 0, kuC := 1, ieP := 2, kuP := 3, ieO := 4, kuO := 5, bd := 31, ceLo := 28, excCodeLo := 2 }

/-- One bit of a register image. -/
def bitAt (b : Bool) (i : Nat) : Word := if b then 1#32 <<< i else 0#32

/-- Bits 27:16, 13:8 and 7:6 of `status`, which hold no state (spec/10_state.md R45). -/
def statusUnusedMask : Word := 0x0fff3fc0#32

/-- `status` as MFC0 reads it; `free` supplies the bits that hold no state (spec/45_system_coprocessor.md R271). -/
def Status.image (st : Status) (free : Word) : Word :=
  bitAt st.cu0 28 ||| bitAt st.im7 15 ||| bitAt st.im6 14 |||
  bitAt st.kuO statusCauseLayout.kuO ||| bitAt st.ieO statusCauseLayout.ieO |||
  bitAt st.kuP statusCauseLayout.kuP ||| bitAt st.ieP statusCauseLayout.ieP |||
  bitAt st.kuC statusCauseLayout.kuC ||| bitAt st.ieC statusCauseLayout.ieC |||
  (free &&& statusUnusedMask)

/-- `status` after MTC0 of a word: the nine storage bits take the word's, and nothing else is kept
(spec/10_state.md R46). -/
def Status.ofWord (v : Word) : Status :=
  { cu0 := v.getLsbD 28, im7 := v.getLsbD 15, im6 := v.getLsbD 14
    kuO := v.getLsbD statusCauseLayout.kuO, ieO := v.getLsbD statusCauseLayout.ieO
    kuP := v.getLsbD statusCauseLayout.kuP, ieP := v.getLsbD statusCauseLayout.ieP
    kuC := v.getLsbD statusCauseLayout.kuC, ieC := v.getLsbD statusCauseLayout.ieC }

/-- The bits of `cause` that hold no state: all but BD, CE, ip7, ip6 and ExcCode (spec/10_state.md R47). -/
def causeUnusedMask : Word := 0x4fff3f83#32

/-- `cause` as MFC0 reads it; `free` supplies the bits that hold no state (spec/45_system_coprocessor.md R271). -/
def Cause.image (c : Cause) (free : Word) : Word :=
  bitAt c.bd statusCauseLayout.bd ||| (c.ce.zeroExtend 32 <<< statusCauseLayout.ceLo) |||
  bitAt c.ip7 15 ||| bitAt c.ip6 14 ||| (c.excCode.zeroExtend 32 <<< statusCauseLayout.excCodeLo) |||
  (free &&& causeUnusedMask)

end Sys2Proof.Machine
end

