-- ==== Sys2Proof/Machine/Operands.lean ====
section
/-! DEFINITION. Every operand form and every result computation of the instruction set
(spec/30_encoding.md R105 to R108; the instruction rules of spec/40 to spec/44). -/

namespace Sys2Proof.Machine

/-! ### Immediates and addresses -/

/-- `sext_32(imm)` (R105). -/
def signExt (imm : BitVec 16) : Word := imm.signExtend 32

/-- `zext_32(imm)` (R105). -/
def zeroExt (imm : BitVec 16) : Word := imm.zeroExtend 32

/-- LUI's operand, the immediate over sixteen zeros (R105, R168). -/
def upperImm (imm : BitVec 16) : Word := imm ++ 0#16

/-- The effective address of a load or store (R140). -/
def effectiveAddress (base : Word) (imm : BitVec 16) : Word := base + signExt imm

/-- The target of a branch at `pc` (R107, R237). -/
def branchTarget (pc : Word) (imm : BitVec 16) : Word := (pc + 4#32) + (signExt imm <<< 2)

/-- The target of a J or JAL at `pc`: the top four bits are those of the delay slot's address (R106). -/
def jumpTarget (pc : Word) (target : BitVec 26) : Word := (pc + 4#32).extractLsb' 28 4 ++ target ++ 0#2

/-- The shift amount of SLLV, SRLV and SRAV: the bottom five bits of the register (R108). -/
def shiftAmount (v : Word) : BitVec 5 := v.extractLsb' 0 5

/-! ### Loaded values (R141 to R145) -/

def signExtByte (v : Byte) : Word := v.signExtend 32
def zeroExtByte (v : Byte) : Word := v.zeroExtend 32
def signExtHalf (v : BitVec 16) : Word := v.signExtend 32
def zeroExtHalf (v : BitVec 16) : Word := v.zeroExtend 32

/-- The byte SB stores (R146). -/
def lowByte (v : Word) : Byte := v.extractLsb' 0 8

/-- The halfword SH stores (R147). -/
def lowHalf (v : Word) : BitVec 16 := v.extractLsb' 0 16

/-! ### Comparisons and shifts -/

/-- 1 or 0 (R163, R164, R185, R186). -/
def setIf (c : Bool) : Word := if c then 1#32 else 0#32

/-- The signed comparison of exact values (R163, R185). -/
def lessSigned (a b : Word) : Bool := decide (a.toInt < b.toInt)

/-- The unsigned comparison of exact values (R164, R186). -/
def lessUnsigned (a b : Word) : Bool := decide (a.toNat < b.toNat)

/-- (R192, R195) -/
def shiftLeft (v : Word) (n : BitVec 5) : Word := v <<< n.toNat

/-- (R193, R196) -/
def shiftRightLogical (v : Word) (n : BitVec 5) : Word := v >>> n.toNat

/-- (R194, R197) -/
def shiftRightArithmetic (v : Word) (n : BitVec 5) : Word := v.sshiftRight n.toNat

/-! ### Branch conditions (R238 to R243) -/

/-- Less than or equal to zero (R240). -/
def lessEqZero (v : Word) : Bool := decide (v.toInt ≤ 0)

/-- Greater than zero (R241). -/
def greaterZero (v : Word) : Bool := decide (0 < v.toInt)

/-- The sign bit is 1 (R242). -/
def negative (v : Word) : Bool := v.getLsbD 31

/-! ### Multiplication and division (R211 to R214, R220) -/

/-- The signed product (R211). -/
def signedProduct (a b : Word) : BitVec 64 := BitVec.ofInt 64 (a.toInt * b.toInt)

/-- The unsigned product (R212). -/
def unsignedProduct (a b : Word) : BitVec 64 := BitVec.ofNat 64 (a.toNat * b.toNat)

/-- The half of a product that goes to `hi`. Log 24. -/
def upperHalf (p : BitVec 64) : Word := p.extractLsb' 32 32

/-- The half of a product that goes to `lo`. Log 24. -/
def lowerHalf (p : BitVec 64) : Word := p.extractLsb' 0 32

/-- Signed division rounds toward zero (R213, R220). PRESUMED (the spec's G5), log 23. -/
def signedQuotient (n d : Int) : Int := n.tdiv d

/-- The remainder of a signed division takes the dividend's sign (R213, R220). PRESUMED (the spec's G5), log 23. -/
def signedRemainder (n d : Int) : Int := n - signedQuotient n d * d

/-- The operands for which the spec gives DIV no result: a zero divisor, and -2^31 by -1 (R213). -/
def signedDivideOpen (n d : Word) : Bool := d == 0#32 || (n == 0x80000000#32 && d == 0xffffffff#32)

/-- The operands for which the spec gives DIVU no result (R214). -/
def unsignedDivideOpen (d : Word) : Bool := d == 0#32

end Sys2Proof.Machine
end

