-- ==== Sys2Proof/Machine/Ops.lean ====
section
/-! DEFINITION. The named operations over the state that every meaning is written with (spec/00_scope.md R10): register
access, memory access, the two ways the program counter moves on, taking an exception and returning from one. -/

namespace Sys2Proof.Machine

/-! ### General registers (spec/10_state.md R20, R21) -/

/-- `x[r]`: `r0` reads as 0. -/
def State.reg (s : State) (r : RegNo) : Word :=
  if r = 0#5 then 0#32 else s.regs[r.toNat - 1]'(by have := r.isLt; omega)

/-- `x[r] <- v`: a write to `r0` is discarded. -/
def State.setReg (s : State) (r : RegNo) (v : Word) : State :=
  { s with regs := if r = 0#5 then s.regs else s.regs.set (r.toNat - 1) v (by have := r.isLt; omega) }

/-- `hi <- v` (R24). -/
def State.setHi (s : State) (v : Word) : State := { s with hi := v }

/-- `lo <- v` (R24). -/
def State.setLo (s : State) (v : Word) : State := { s with lo := v }

/-! ### Memory (spec/20_memory.md R73 to R75) -/

/-- The physical byte an address reaches: the low PA_BITS bits of it (R73). -/
def State.phys (s : State) (a : Word) : Nat := a.toNat % 2 ^ s.params.paBits

/-- `M[a]`. -/
def State.readByte (s : State) (a : Word) : Byte := Memory.read s.mem (s.phys a)

/-- `MemRead(a, 2)`, big-endian (R74). -/
def State.readHalf (s : State) (a : Word) : BitVec 16 := s.readByte a ++ s.readByte (a + 1#32)

/-- `MemRead(a, 4)`, big-endian (R74). -/
def State.readWord (s : State) (a : Word) : Word :=
  wordOfBytes (s.readByte a) (s.readByte (a + 1#32)) (s.readByte (a + 2#32)) (s.readByte (a + 3#32))

/-- The physical word an address lies in, the key of its mark (R90). -/
def State.wordNo (s : State) (a : Word) : Nat := s.phys a / 4

/-- The address of the aligned word around an address (R74). -/
def wordAligned (a : Word) : Word := a &&& 0xfffffffc#32

/-- Store bytes from `a` up, inside one aligned word, and mark that word as stored to since the last ICINV (R75, R90). -/
def State.storeBytes (s : State) (a : Word) (bytes : List Byte) : State :=
  { s with
    mem := Memory.writeBytes s.params.paBits s.mem a bytes
    marks := Marks.add s.marks (s.wordNo a) (s.readWord (wordAligned a)) }

/-- `MemWrite(a, 1, v)` (R75). -/
def State.writeByte (s : State) (a : Word) (v : Byte) : State := s.storeBytes a [v]

/-- `MemWrite(a, 2, v)` (R75). -/
def State.writeHalf (s : State) (a : Word) (v : BitVec 16) : State :=
  s.storeBytes a [v.extractLsb' 8 8, v.extractLsb' 0 8]

/-- `MemWrite(a, 4, v)` (R75). -/
def State.writeWord (s : State) (a : Word) (v : Word) : State := s.storeBytes a (bytesOfWord v)

/-- ICINV's effect: every mark is cleared (spec/45_system_coprocessor.md R274). -/
def State.clearMarks (s : State) : State := { s with marks := [] }

/-- User mode may not touch kseg (R71, R72). -/
def State.kernelOnly (s : State) (a : Word) : Bool := s.status.kuC && !a.getLsbD 31

/-- The test of `CheckData(a, n, kind)` (R78): true when the access raises AdEL or AdES. -/
def State.dataFaults (s : State) (n : Nat) (a : Word) : Bool :=
  (n == 4 && a.extractLsb' 0 2 != 0#2) || (n == 2 && a.getLsbD 0) || s.kernelOnly a

/-! ### Where the program counter goes (spec/10_state.md R29; spec/44_jumps_branches.md R231, R232) -/

/-- The defaults of step S5. -/
def State.advance (s : State) : State := { s with pc := s.npc, npc := s.npc + 4#32, ds := false }

/-- `Branch(target)` (R231). -/
def State.branchTo (s : State) (target : Word) : State := { s with pc := s.npc, npc := target, ds := true }

/-- A branch that is not taken and is not a branch-likely: the next instruction is still its delay slot (R232).
Log 34. -/
def State.fallThrough (s : State) : State := { s with pc := s.npc, npc := s.npc + 4#32, ds := true }

/-- `Annul()` (R232). -/
def State.annul (s : State) : State := { s with pc := s.pc + 8#32, npc := s.pc + 12#32, ds := false }

/-! ### Taking an exception (spec/60_exceptions.md R320) and returning from one (R323) -/

/-- The exception code (spec/60_exceptions.md R300). -/
def Exc.code : Exc → BitVec 5
  | .hint => 0#5
  | .tint => 2#5
  | .adEL _ => 4#5
  | .adES _ => 5#5
  | .adEF => 6#5
  | .sys => 8#5
  | .bp => 9#5
  | .ri => 10#5
  | .cpU _ => 11#5
  | .ov => 12#5

/-- `cause.CE`: the coprocessor number for CpU, any value else (spec/10_state.md R50). -/
def Exc.ce (e : Exc) (free : BitVec 2) : BitVec 2 :=
  match e with
  | .cpU z => z
  | _ => free

/-- `badvaddr`: the address for AdEL and AdES, any value else (spec/10_state.md R54). Log 21, 43. -/
def Exc.badVAddr (e : Exc) (free : Word) : Word :=
  match e with
  | .adEL a => a
  | .adES a => a
  | _ => free

/-- The restart address: the instruction's own, or the branch's before it (spec/10_state.md R53). -/
def State.restartAddress (s : State) : Word := if s.ds then s.pc - 4#32 else s.pc

/-- `TrapEntry(code, ce, bad)` (R320). -/
def State.trapEntry (s : State) (e : Exc) : State :=
  { s with
    epc := s.restartAddress
    cause := { s.cause with bd := s.ds, excCode := e.code, ce := e.ce (Config.causeCe s.draws) }
    badvaddr := e.badVAddr (Config.badVAddr s.draws)
    status := s.status.push
    pc := trapVector
    npc := trapVector + 4#32
    ds := false }

/-- `raise E(info)`: the instruction's only effect is trap entry (spec/00_scope.md R10; spec/60_exceptions.md R322). -/
def State.raise (s : State) (e : Exc) : Result := .next (s.trapEntry e)

/-- What RFE does to `status` (spec/45_system_coprocessor.md R273). -/
def State.restoreStatus (s : State) : State := { s with status := s.status.pop }

/-! ### Shared shapes of meanings -/

/-- An instruction that computes one value into a register and goes on. -/
def State.finish (s : State) (r : RegNo) (v : Word) : Result := .next (s.setReg r v).advance

/-- An instruction that writes a register unless it overflows (spec/42_register_computational.md R180, R198).
Log 25. -/
def State.finishUnless (s : State) (overflow : Bool) (r : RegNo) (v : Word) : Result :=
  if overflow then s.raise .ov else s.finish r v

/-- A load of `n` bytes: the check comes before any register is touched (spec/40_loads_stores.md R140). -/
def State.load (s : State) (n : Nat) (value : State → Word → Word) (rt rs : RegNo) (imm : BitVec 16) : Result :=
  let ea := effectiveAddress (s.reg rs) imm
  if s.dataFaults n ea then s.raise (.adEL ea) else s.finish rt (value s ea)

/-- A store of `n` bytes: the check comes before any byte is written (spec/40_loads_stores.md R140). -/
def State.store (s : State) (n : Nat) (write : State → Word → Word → State) (rt rs : RegNo) (imm : BitVec 16) :
    Result :=
  let ea := effectiveAddress (s.reg rs) imm
  if s.dataFaults n ea then s.raise (.adES ea) else .next (write s ea (s.reg rt)).advance

/-- Every jump and branch: the spec gives none of them a meaning in a delay slot (spec/44_jumps_branches.md R255).
Log 26. -/
def State.transfer (s : State) (after : State) : Result :=
  if s.ds then .refused .branchInDelaySlot else .next after

/-- Where an ordinary conditional branch goes on (spec/44_jumps_branches.md R231, R232, R237). -/
def State.branchIf (s : State) (taken : Bool) (imm : BitVec 16) : State :=
  if taken then s.branchTo (branchTarget s.pc imm) else s.fallThrough

/-- Where a branch-likely goes on (spec/44_jumps_branches.md R232, R244). -/
def State.branchLikelyIf (s : State) (taken : Bool) (imm : BitVec 16) : State :=
  if taken then s.branchTo (branchTarget s.pc imm) else s.annul

/-- The link value, the address after the delay slot, into a register (spec/44_jumps_branches.md R234, R236, R249). -/
def State.link (s : State) (r : RegNo) : State := s.setReg r (s.pc + 8#32)

/-! ### Coprocessor 0 (spec/45_system_coprocessor.md R270 to R272) -/

/-- CP0 is usable in kernel mode, and in user mode with `CU[0]` (spec/10_state.md R32). -/
def State.cop0Usable (s : State) : Bool := !s.status.kuC || s.status.cu0

/-- The usability test in front of a COP0 word (R270). -/
def State.withCop0 (s : State) (k : Result) : Result := if s.cop0Usable then k else s.raise (.cpU 0#2)

/-- `ReadCP0(rd)` (R271). -/
def State.readCp0 (s : State) (n : Cp0No) : Word :=
  match n with
  | 8#5 => s.badvaddr
  | 9#5 => s.count
  | 11#5 => s.compare
  | 12#5 => s.status.image (Config.statusUnusedBits s.draws)
  | 13#5 => s.cause.image (Config.causeUnusedBits s.draws)
  | 14#5 => s.epc
  | 20#5 => s.fromhost.zeroExtend 32
  | 21#5 => s.tohost.zeroExtend 32
  | _ => Config.cp0Unused s.draws n

/-- MTC0 to `count`: counting goes on from the value; `ip7` is open if it meets `compare` (spec/10_state.md R36, R38).
Log 20. -/
def State.writeCount (s : State) (v : Word) : State :=
  { s with
    count := v
    cause := { s.cause with ip7 := if v = s.compare then Config.timerFlag s.draws else s.cause.ip7 } }

/-- MTC0 to `compare`: clears `ip7`, which is open if the value meets `count` (spec/10_state.md R37, R38). Log 20. -/
def State.writeCompare (s : State) (v : Word) : State :=
  { s with
    compare := v
    cause := { s.cause with ip7 := if v = s.count then Config.timerFlag s.draws else false } }

/-- The effect of MTC0 on the CP0 register (R272): read-only and unused numbers change nothing. -/
def State.writeCp0 (s : State) (n : Cp0No) (v : Word) : State :=
  match n with
  | 9#5 => s.writeCount v
  | 11#5 => s.writeCompare v
  | 12#5 => { s with status := Status.ofWord v }
  | 21#5 => { s with tohost := lowByte v }
  | _ => s

end Sys2Proof.Machine
end

