-- ==== Sys2Proof/Machine/Immediate.lean ====
section
/-! DEFINITION. Register-immediate computational instructions (spec/41_immediate_computational.md R160 to R168). -/

namespace Sys2Proof.Machine

/-- ADDI (R161). -/
def execAddi (rt rs : RegNo) (imm : BitVec 16) (s : State) : Result :=
  s.finishUnless (addOverflows (s.reg rs) (signExt imm)) rt (s.reg rs + signExt imm)

/-- ADDIU (R162). -/
def execAddiu (rt rs : RegNo) (imm : BitVec 16) (s : State) : Result := s.finish rt (s.reg rs + signExt imm)

/-- SLTI (R163). -/
def execSlti (rt rs : RegNo) (imm : BitVec 16) (s : State) : Result :=
  s.finish rt (setIf (lessSigned (s.reg rs) (signExt imm)))

/-- SLTIU (R164). -/
def execSltiu (rt rs : RegNo) (imm : BitVec 16) (s : State) : Result :=
  s.finish rt (setIf (lessUnsigned (s.reg rs) (signExt imm)))

/-- ANDI (R165). -/
def execAndi (rt rs : RegNo) (imm : BitVec 16) (s : State) : Result := s.finish rt (s.reg rs &&& zeroExt imm)

/-- ORI (R166). -/
def execOri (rt rs : RegNo) (imm : BitVec 16) (s : State) : Result := s.finish rt (s.reg rs ||| zeroExt imm)

/-- XORI (R167). -/
def execXori (rt rs : RegNo) (imm : BitVec 16) (s : State) : Result := s.finish rt (s.reg rs ^^^ zeroExt imm)

/-- LUI (R168). -/
def execLui (rt : RegNo) (imm : BitVec 16) (s : State) : Result := s.finish rt (upperImm imm)

end Sys2Proof.Machine
end

