-- ==== Sys2Proof/Machine/JumpBranch.lean ====
section
/-! DEFINITION. Jump and branch instructions (spec/44_jumps_branches.md R230 to R256). Sources are read before a link
register is written (log 31). -/

namespace Sys2Proof.Machine

/-- J (R233). -/
def execJ (target : BitVec 26) (s : State) : Result := s.transfer (s.branchTo (jumpTarget s.pc target))

/-- JAL (R234). -/
def execJal (target : BitVec 26) (s : State) : Result :=
  s.transfer ((s.link 31#5).branchTo (jumpTarget s.pc target))

/-- JR (R235). -/
def execJr (rs : RegNo) (s : State) : Result := s.transfer (s.branchTo (s.reg rs))

/-- JALR (R236). -/
def execJalr (rd rs : RegNo) (s : State) : Result := s.transfer ((s.link rd).branchTo (s.reg rs))

/-- BEQ (R238). -/
def execBeq (rs rt : RegNo) (imm : BitVec 16) (s : State) : Result :=
  s.transfer (s.branchIf (s.reg rs == s.reg rt) imm)

/-- BNE (R239). -/
def execBne (rs rt : RegNo) (imm : BitVec 16) (s : State) : Result :=
  s.transfer (s.branchIf (s.reg rs != s.reg rt) imm)

/-- BLEZ (R240). -/
def execBlez (rs : RegNo) (imm : BitVec 16) (s : State) : Result :=
  s.transfer (s.branchIf (lessEqZero (s.reg rs)) imm)

/-- BGTZ (R241). -/
def execBgtz (rs : RegNo) (imm : BitVec 16) (s : State) : Result :=
  s.transfer (s.branchIf (greaterZero (s.reg rs)) imm)

/-- BLTZ (R242). -/
def execBltz (rs : RegNo) (imm : BitVec 16) (s : State) : Result :=
  s.transfer (s.branchIf (negative (s.reg rs)) imm)

/-- BGEZ (R243). -/
def execBgez (rs : RegNo) (imm : BitVec 16) (s : State) : Result :=
  s.transfer (s.branchIf (!negative (s.reg rs)) imm)

/-- BEQL (R245). -/
def execBeql (rs rt : RegNo) (imm : BitVec 16) (s : State) : Result :=
  s.transfer (s.branchLikelyIf (s.reg rs == s.reg rt) imm)

/-- BNEL (R246). -/
def execBnel (rs rt : RegNo) (imm : BitVec 16) (s : State) : Result :=
  s.transfer (s.branchLikelyIf (s.reg rs != s.reg rt) imm)

/-- BLEZL (R247). -/
def execBlezl (rs : RegNo) (imm : BitVec 16) (s : State) : Result :=
  s.transfer (s.branchLikelyIf (lessEqZero (s.reg rs)) imm)

/-- BGTZL (R248). -/
def execBgtzl (rs : RegNo) (imm : BitVec 16) (s : State) : Result :=
  s.transfer (s.branchLikelyIf (greaterZero (s.reg rs)) imm)

/-- BLTZL (R253). -/
def execBltzl (rs : RegNo) (imm : BitVec 16) (s : State) : Result :=
  s.transfer (s.branchLikelyIf (negative (s.reg rs)) imm)

/-- BGEZL (R254). -/
def execBgezl (rs : RegNo) (imm : BitVec 16) (s : State) : Result :=
  s.transfer (s.branchLikelyIf (!negative (s.reg rs)) imm)

/-- BLTZAL (R249): the link is written whether or not the branch is taken. -/
def execBltzal (rs : RegNo) (imm : BitVec 16) (s : State) : Result :=
  s.transfer ((s.link 31#5).branchIf (negative (s.reg rs)) imm)

/-- BGEZAL (R250): the link is written whether or not the branch is taken. -/
def execBgezal (rs : RegNo) (imm : BitVec 16) (s : State) : Result :=
  s.transfer ((s.link 31#5).branchIf (!negative (s.reg rs)) imm)

/-- BLTZALL (R251): the link is written whether or not the branch is taken. Log 35. -/
def execBltzall (rs : RegNo) (imm : BitVec 16) (s : State) : Result :=
  s.transfer ((s.link 31#5).branchLikelyIf (negative (s.reg rs)) imm)

/-- BGEZALL (R252): the link is written whether or not the branch is taken. Log 35. -/
def execBgezall (rs : RegNo) (imm : BitVec 16) (s : State) : Result :=
  s.transfer ((s.link 31#5).branchLikelyIf (!negative (s.reg rs)) imm)

end Sys2Proof.Machine
end

