-- ==== Sys2Proof/Machine/LoadStore.lean ====
section
/-! DEFINITION. Load and store instructions (spec/40_loads_stores.md R140 to R148). -/

namespace Sys2Proof.Machine

/-- LB (R141). -/
def execLb (rt rs : RegNo) (imm : BitVec 16) (s : State) : Result :=
  s.load 1 (fun s ea => signExtByte (s.readByte ea)) rt rs imm

/-- LH (R142). -/
def execLh (rt rs : RegNo) (imm : BitVec 16) (s : State) : Result :=
  s.load 2 (fun s ea => signExtHalf (s.readHalf ea)) rt rs imm

/-- LW (R143). -/
def execLw (rt rs : RegNo) (imm : BitVec 16) (s : State) : Result := s.load 4 State.readWord rt rs imm

/-- LBU (R144). -/
def execLbu (rt rs : RegNo) (imm : BitVec 16) (s : State) : Result :=
  s.load 1 (fun s ea => zeroExtByte (s.readByte ea)) rt rs imm

/-- LHU (R145). -/
def execLhu (rt rs : RegNo) (imm : BitVec 16) (s : State) : Result :=
  s.load 2 (fun s ea => zeroExtHalf (s.readHalf ea)) rt rs imm

/-- SB (R146). -/
def execSb (rt rs : RegNo) (imm : BitVec 16) (s : State) : Result :=
  s.store 1 (fun s ea v => s.writeByte ea (lowByte v)) rt rs imm

/-- SH (R147). -/
def execSh (rt rs : RegNo) (imm : BitVec 16) (s : State) : Result :=
  s.store 2 (fun s ea v => s.writeHalf ea (lowHalf v)) rt rs imm

/-- SW (R148). -/
def execSw (rt rs : RegNo) (imm : BitVec 16) (s : State) : Result := s.store 4 State.writeWord rt rs imm

end Sys2Proof.Machine
end

