-- ==== Sys2Proof/Machine/MulDiv.lean ====
section
/-! DEFINITION. Multiply, divide and hi/lo moves (spec/43_multiply_divide.md R210 to R220). -/

namespace Sys2Proof.Machine

/-- A multiply or divide: it writes `hi` and `lo` and goes on (R210). -/
def State.finishHiLo (s : State) (hi lo : Word) : Result := .next ((s.setHi hi).setLo lo).advance

/-- MFHI (R215). -/
def execMfhi (rd : RegNo) (s : State) : Result := s.finish rd s.hi

/-- MTHI (R217). -/
def execMthi (rs : RegNo) (s : State) : Result := .next (s.setHi (s.reg rs)).advance

/-- MFLO (R216). -/
def execMflo (rd : RegNo) (s : State) : Result := s.finish rd s.lo

/-- MTLO (R218). -/
def execMtlo (rs : RegNo) (s : State) : Result := .next (s.setLo (s.reg rs)).advance

/-- MULT (R211). -/
def execMult (rs rt : RegNo) (s : State) : Result :=
  let p := signedProduct (s.reg rs) (s.reg rt)
  s.finishHiLo (upperHalf p) (lowerHalf p)

/-- MULTU (R212). -/
def execMultu (rs rt : RegNo) (s : State) : Result :=
  let p := unsignedProduct (s.reg rs) (s.reg rt)
  s.finishHiLo (upperHalf p) (lowerHalf p)

/-- DIV (R213): no exception; where the spec gives no result, `hi` and `lo` are free values. Log 22. -/
def execDiv (rs rt : RegNo) (s : State) : Result :=
  let n := s.reg rs
  let d := s.reg rt
  if signedDivideOpen n d then s.finishHiLo (Config.divideHi s.draws n d) (Config.divideLo s.draws n d)
  else
    s.finishHiLo (BitVec.ofInt 32 (signedRemainder n.toInt d.toInt)) (BitVec.ofInt 32 (signedQuotient n.toInt d.toInt))

/-- DIVU (R214): no exception; a zero divisor leaves free values in `hi` and `lo`. Log 22. -/
def execDivu (rs rt : RegNo) (s : State) : Result :=
  let n := s.reg rs
  let d := s.reg rt
  if unsignedDivideOpen d then s.finishHiLo (Config.divideHi s.draws n d) (Config.divideLo s.draws n d)
  else s.finishHiLo (BitVec.ofNat 32 (n.toNat % d.toNat)) (BitVec.ofNat 32 (n.toNat / d.toNat))

end Sys2Proof.Machine
end

