-- ==== Sys2Proof/Machine/Register.lean ====
section
/-! DEFINITION. Shifts and register-register computational instructions (spec/42_register_computational.md R180 to
R197). -/

namespace Sys2Proof.Machine

/-- SLL (R192). -/
def execSll (rd rt : RegNo) (shamt : BitVec 5) (s : State) : Result := s.finish rd (shiftLeft (s.reg rt) shamt)

/-- SRL (R193). -/
def execSrl (rd rt : RegNo) (shamt : BitVec 5) (s : State) : Result :=
  s.finish rd (shiftRightLogical (s.reg rt) shamt)

/-- SRA (R194). -/
def execSra (rd rt : RegNo) (shamt : BitVec 5) (s : State) : Result :=
  s.finish rd (shiftRightArithmetic (s.reg rt) shamt)

/-- SLLV (R195). -/
def execSllv (rd rt rs : RegNo) (s : State) : Result :=
  s.finish rd (shiftLeft (s.reg rt) (shiftAmount (s.reg rs)))

/-- SRLV (R196). -/
def execSrlv (rd rt rs : RegNo) (s : State) : Result :=
  s.finish rd (shiftRightLogical (s.reg rt) (shiftAmount (s.reg rs)))

/-- SRAV (R197). -/
def execSrav (rd rt rs : RegNo) (s : State) : Result :=
  s.finish rd (shiftRightArithmetic (s.reg rt) (shiftAmount (s.reg rs)))

/-- ADD (R181). -/
def execAdd (rd rs rt : RegNo) (s : State) : Result :=
  s.finishUnless (addOverflows (s.reg rs) (s.reg rt)) rd (s.reg rs + s.reg rt)

/-- ADDU (R182). -/
def execAddu (rd rs rt : RegNo) (s : State) : Result := s.finish rd (s.reg rs + s.reg rt)

/-- SUB (R183). -/
def execSub (rd rs rt : RegNo) (s : State) : Result :=
  s.finishUnless (subOverflows (s.reg rs) (s.reg rt)) rd (s.reg rs - s.reg rt)

/-- SUBU (R184). -/
def execSubu (rd rs rt : RegNo) (s : State) : Result := s.finish rd (s.reg rs - s.reg rt)

/-- AND (R187). -/
def execAnd (rd rs rt : RegNo) (s : State) : Result := s.finish rd (s.reg rs &&& s.reg rt)

/-- OR (R188). -/
def execOr (rd rs rt : RegNo) (s : State) : Result := s.finish rd (s.reg rs ||| s.reg rt)

/-- XOR (R189). -/
def execXor (rd rs rt : RegNo) (s : State) : Result := s.finish rd (s.reg rs ^^^ s.reg rt)

/-- NOR (R190). -/
def execNor (rd rs rt : RegNo) (s : State) : Result := s.finish rd (~~~(s.reg rs ||| s.reg rt))

/-- SLT (R185). -/
def execSlt (rd rs rt : RegNo) (s : State) : Result := s.finish rd (setIf (lessSigned (s.reg rs) (s.reg rt)))

/-- SLTU (R186). -/
def execSltu (rd rs rt : RegNo) (s : State) : Result := s.finish rd (setIf (lessUnsigned (s.reg rs) (s.reg rt)))

end Sys2Proof.Machine
end

