-- ==== Sys2Proof/Machine/System.lean ====
section
/-! DEFINITION. System coprocessor instructions, SYSCALL, BREAK, and the rows that only trap
(spec/45_system_coprocessor.md R270 to R282). -/

namespace Sys2Proof.Machine

/-- MFC0 (R271). -/
def execMfc0 (rt : RegNo) (rd : Cp0No) (s : State) : Result := s.withCop0 (s.finish rt (s.readCp0 rd))

/-- MTC0 (R272). -/
def execMtc0 (rt : RegNo) (rd : Cp0No) (s : State) : Result :=
  s.withCop0 (.next (s.writeCp0 rd (s.reg rt)).advance)

/-- RFE (R273). -/
def execRfe (s : State) : Result := s.withCop0 (.next s.restoreStatus.advance)

/-- ICINV (R274). -/
def execIcinv (s : State) : Result := s.withCop0 (.next s.clearMarks.advance)

/-- SYSCALL (R275): the code bits are ignored (spec/30_encoding.md R119). -/
def execSyscall (_code : BitVec 20) (s : State) : Result := s.raise .sys

/-- BREAK (R276): the code bits are ignored (spec/30_encoding.md R119). -/
def execBreakpoint (_code : BitVec 20) (s : State) : Result := s.raise .bp

/-- SYNC is not implemented and raises RI (R277; spec/90_conflicts.md C1). -/
def execSync (_code : BitVec 20) (s : State) : Result := s.raise .ri

/-- Major opcode 010001: CpU for coprocessor 1 (R281). -/
def execCop1Unusable010001 (_bits : BitVec 26) (s : State) : Result := s.raise (.cpU 1#2)

/-- Major opcode 110001: CpU for coprocessor 1 (R281). -/
def execCop1Unusable110001 (_bits : BitVec 26) (s : State) : Result := s.raise (.cpU 1#2)

/-- Major opcode 110101: CpU for coprocessor 1 (R281). -/
def execCop1Unusable110101 (_bits : BitVec 26) (s : State) : Result := s.raise (.cpU 1#2)

/-- Major opcode 111001: CpU for coprocessor 1 (R281). -/
def execCop1Unusable111001 (_bits : BitVec 26) (s : State) : Result := s.raise (.cpU 1#2)

/-- Major opcode 111101: CpU for coprocessor 1 (R281). -/
def execCop1Unusable111101 (_bits : BitVec 26) (s : State) : Result := s.raise (.cpU 1#2)

/-- Major opcode 010010: CpU for coprocessor 2 (R282). -/
def execCop2Unusable010010 (_bits : BitVec 26) (s : State) : Result := s.raise (.cpU 2#2)

/-- Major opcode 110010: CpU for coprocessor 2 (R282). -/
def execCop2Unusable110010 (_bits : BitVec 26) (s : State) : Result := s.raise (.cpU 2#2)

/-- Major opcode 110110: CpU for coprocessor 2 (R282). -/
def execCop2Unusable110110 (_bits : BitVec 26) (s : State) : Result := s.raise (.cpU 2#2)

/-- Major opcode 111010: CpU for coprocessor 2 (R282). -/
def execCop2Unusable111010 (_bits : BitVec 26) (s : State) : Result := s.raise (.cpU 2#2)

/-- Major opcode 111110: CpU for coprocessor 2 (R282). -/
def execCop2Unusable111110 (_bits : BitVec 26) (s : State) : Result := s.raise (.cpU 2#2)

/-- Major opcode 010011: CpU for coprocessor 3 (R282). -/
def execCop3Unusable010011 (_bits : BitVec 26) (s : State) : Result := s.raise (.cpU 3#2)

/-- Major opcode 110011: CpU for coprocessor 3 (R282). -/
def execCop3Unusable110011 (_bits : BitVec 26) (s : State) : Result := s.raise (.cpU 3#2)

/-- Major opcode 110111: CpU for coprocessor 3 (R282). -/
def execCop3Unusable110111 (_bits : BitVec 26) (s : State) : Result := s.raise (.cpU 3#2)

/-- Major opcode 111011: CpU for coprocessor 3 (R282). -/
def execCop3Unusable111011 (_bits : BitVec 26) (s : State) : Result := s.raise (.cpU 3#2)

/-- Major opcode 111111: CpU for coprocessor 3 (R282). -/
def execCop3Unusable111111 (_bits : BitVec 26) (s : State) : Result := s.raise (.cpU 3#2)

end Sys2Proof.Machine
end

