-- ==== Sys2Proof/Machine/Cycle.lean ====
section
/-! DEFINITION. The instruction cycle (spec/10_state.md R29): time and the host (S1), reset (S2), interrupts (S3), the
fetch check and the fetch (S4), decode and execution (S5 to S7). The interrupts are sampled with S1, whose flags they
depend on; reset clears what was sampled. -/

namespace Sys2Proof.Machine

/-! ### S1: time passes and the host acts -/

/-- What the outside does in this step: the head of the script, or free draws without a reset. Log 6 to 9. -/
def State.input (s : State) : StepInput :=
  match s.inputs with
  | i :: _ => i
  | [] =>
    { extraCycles := Config.extraCycles s.draws, acts := Config.hostActs s.draws, reset := none,
      deferral := Config.deferral s.draws }

/-- CYCLES: a positive number of clock cycles elapses (D11). Log 6. -/
def StepInput.cycles (i : StepInput) : Nat := i.extraCycles + 1

/-- `count`, on its way through `count + 1` to `count + n`, meets `compare` (R36, R38): the distance from `count` up to
`compare`, a whole turn when they are equal, is at most `n`. -/
def countReaches (count compare : Word) (n : Nat) : Bool :=
  decide ((if count = compare then 2 ^ 32 else (compare - count).toNat) ≤ n)

/-- `fromhost` after the host's acts (spec/60_exceptions.md R341). -/
def fromhostAfter : List HostAct → Byte → Byte
  | [], v => v
  | .writeFromhost v :: acts, _ => fromhostAfter acts v
  | _ :: acts, v => fromhostAfter acts v

/-- `cause.ip6` after the host's acts (spec/60_exceptions.md R342). -/
def ip6After : List HostAct → Bool → Bool
  | [], b => b
  | .writeIp6 b :: acts, _ => ip6After acts b
  | _ :: acts, b => ip6After acts b

/-- Step S1 with the given input. -/
def State.elapse (s : State) (i : StepInput) : State :=
  { s with
    count := s.count + BitVec.ofNat 32 i.cycles
    cause := { s.cause with
      ip7 := s.cause.ip7 || countReaches s.count s.compare i.cycles
      ip6 := ip6After i.acts s.cause.ip6 }
    fromhost := fromhostAfter i.acts s.fromhost
    inputs := s.inputs.tail
    draws := s.draws + 1 }

/-! ### The interrupts sampled (spec/60_exceptions.md R312, R317) -/

/-- `hint_ok`: the host interrupt is pending and enabled. -/
def State.hintOk (s : State) : Bool := s.status.ieC && (s.status.im6 && s.cause.ip6)

/-- `tint_ok`: the timer interrupt is pending and enabled. -/
def State.tintOk (s : State) : Bool := s.status.ieC && (s.status.im7 && s.cause.ip7)

/-- The interrupt that may be taken at this boundary, the host's before the timer's. -/
def State.pendingInterrupt (s : State) : Option Exc :=
  if s.hintOk then some .hint else if s.tintOk then some .tint else none

/-- The bound INT_LATENCY on a drawn deferral (D13). Log 45. -/
def boundedDeferral (intLatency : Option Nat) (drawn : Nat) : Nat :=
  match intLatency with
  | some n => min drawn n
  | none => drawn

/-- At how many boundaries the pending interrupt may be deferred from this one on: one less than at the boundary before,
where it waited there, and the drawn number where it begins to wait. Log 8, 46. -/
def State.deferralLeft (s : State) (e : Exc) (drawn : Nat) : Nat :=
  match s.waiting with
  | some w => if w.interrupt = e then w.left - 1 else boundedDeferral s.params.intLatency drawn
  | none => boundedDeferral s.params.intLatency drawn

/-- Sample the interrupts at an instruction boundary. One whose condition does not hold leaves no trace. -/
def State.sampleInterrupts (s : State) (drawn : Nat) : State :=
  { s with waiting := s.pendingInterrupt.map fun e => ⟨e, s.deferralLeft e drawn⟩ }

/-- What comes before the instruction: time passes, the host acts, and the interrupts are sampled. -/
def State.tick (s : State) (i : StepInput) : State := (s.elapse i).sampleInterrupts i.deferral

/-- The sampled interrupt that is taken at this boundary, since it may be deferred no more. -/
def State.dueInterrupt (s : State) : Option Exc :=
  match s.waiting with
  | some ⟨e, 0⟩ => some e
  | _ => none

/-! ### S2: reset -/

/-- The external reset: the state of spec/10_state.md R60 with the given draw for what it leaves undefined. The
implementation parameters and the script are not the CPU's state and stay. -/
def State.externalReset (s : State) (r : ResetState) : State :=
  { State.ofReset s.params r with inputs := s.inputs, draws := s.draws }

/-! ### S4: the fetch (spec/20_memory.md R79, R80, R90) -/

/-- The fetch check: misaligned, or kseg in user mode. -/
def State.fetchFaults (s : State) : Bool := s.pc.extractLsb' 0 2 != 0#2 || s.kernelOnly s.pc

/-- The instruction word at `pc`. A word stored to since the last ICINV is no word under refuse-stale, and either of
the two words under either-word. -/
def State.fetch (s : State) : Option Word :=
  match Marks.lookup s.marks (s.wordNo s.pc) with
  | none => some (s.readWord s.pc)
  | some old =>
    match s.params.icache with
    | .refuseStale => none
    | .eitherWord => some (if Config.fetchOldWord s.draws then old else s.readWord s.pc)

/-! ### S5 to S7: decode and execute (spec/30_encoding.md R110) -/

/-- The word's major opcode is COP0. -/
def isCop0Word (w : Word) : Bool := opField w == 0x10#6

/-- A word that selects an instruction's cell with a should-be-zero field set (spec/30_encoding.md R118). The COP0
usability test comes first (spec/45_system_coprocessor.md R270). Log 42. -/
def State.runShouldBeZero (s : State) (w : Word) (i : Instr) : Result :=
  if isCop0Word w && !s.cop0Usable then s.raise (.cpU 0#2)
  else
    match s.params.sbz with
    | .refuse => .refused .shouldBeZero
    | .ignore => exec i s
    | .ri => s.raise .ri

/-- Run a fetched word. -/
def State.runWord (s : State) (w : Word) : Result :=
  match decode w with
  | .instr i => exec i s
  | .shouldBeZero i => s.runShouldBeZero w i
  | .reserved => s.raise .ri
  | .illegalCop0 => s.withCop0 (.refused .illegalCop0)

/-- Steps S4 to S7. -/
def State.runInstruction (s : State) : Result :=
  if s.fetchFaults then s.raise .adEF
  else
    match s.fetch with
    | some w => s.runWord w
    | none => .refused .staleFetch

/-- Steps S3 to S7: a sampled interrupt is taken or the instruction runs. -/
def State.interruptOrRun (s : State) : Result :=
  match s.dueInterrupt with
  | some e => s.raise e
  | none => s.runInstruction

/-- The whole cycle with the given input. -/
def State.cycleWith (s : State) (i : StepInput) : Result :=
  match i.reset with
  | some r => .next ((s.tick i).externalReset r)
  | none => (s.tick i).interruptOrRun

/-- The whole cycle. -/
def State.cycle (s : State) : Result := s.cycleWith s.input

/-! ### Placing a program from outside -/

/-- The word's four bytes at `pc`, as a fetch reads them, and no mark on it. Log 5. -/
def State.placeAtPc (s : State) (w : Word) : State :=
  { s with
    mem := Memory.writeBytes s.params.paBits s.mem s.pc (bytesOfWord w)
    marks := Marks.erase s.marks (s.wordNo s.pc) }

end Sys2Proof.Machine
end

