-- ==== Sys2Proof/Safety.lean ====
section
/-! DEFINITION. The terms the claims are stated in: the invariant of the machine's states, what an instruction leaves
as it was, and the shapes of what one instruction does. The shapes are written from the spec's words, not from the
meanings. -/

namespace Sys2Proof

open Sys2Proof.Machine

/-! ### The invariant -/

/-- What holds of every state of this machine: memory and marks are in their canonical form and within the decoded
addresses, PA_BITS is in its range (spec/20_memory.md R73), outside a delay slot the next instruction is the one at
`pc + 4` (spec/10_state.md R28), and no interrupt's deferral is longer than INT_LATENCY (D13). -/
structure StateInv (s : State) : Prop where
  memCanonical : Memory.wf s.mem = true
  memWithin : Memory.within s.params.paBits s.mem = true
  marksCanonical : Marks.wf s.marks = true
  paBitsRange : 1 ≤ s.params.paBits ∧ s.params.paBits ≤ 32
  sequential : s.ds = false → s.npc = s.pc + 4#32
  deferralBounded : ∀ n w, s.params.intLatency = some n → s.waiting = some w → w.left ≤ n

/-- A run of `n` steps that neither faults nor is refused. -/
def RunsFor (n : Nat) (s : State) : Prop := ∃ t, core.run n s = .next t

/-! ### Frames -/

/-- Every general register reads as before. -/
def KeepsRegs (s t : State) : Prop := ∀ r, t.reg r = s.reg r

/-- Every general register but one reads as before. -/
def KeepsRegsBut (d : RegNo) (s t : State) : Prop := ∀ r, r ≠ d → t.reg r = s.reg r

/-- `hi` and `lo` are as before. -/
def KeepsHiLo (s t : State) : Prop := t.hi = s.hi ∧ t.lo = s.lo

/-- Every CP0 register but `status` and `cause` is as before. -/
def KeepsPlainCp0 (s t : State) : Prop :=
  t.badvaddr = s.badvaddr ∧ t.count = s.count ∧ t.compare = s.compare ∧ t.epc = s.epc ∧
    t.fromhost = s.fromhost ∧ t.tohost = s.tohost

/-- Every CP0 register is as before. -/
def KeepsCp0 (s t : State) : Prop := KeepsPlainCp0 s t ∧ t.status = s.status ∧ t.cause = s.cause

/-- Every byte of memory reads as before, and no word is newly stale or newly fresh. -/
def KeepsMemory (s t : State) : Prop := (∀ a, t.readByte a = s.readByte a) ∧ t.marks = s.marks

/-- The implementation parameters, what the outside will do, and the interrupt that waits are as before. -/
def KeepsOutside (s t : State) : Prop :=
  t.params = s.params ∧ t.inputs = s.inputs ∧ t.draws = s.draws ∧ t.waiting = s.waiting

/-- The instruction goes on to the next one in order (spec/10_state.md R29, step S5). -/
def GoesOn (s t : State) : Prop := t.pc = s.npc ∧ t.npc = s.npc + 4#32 ∧ t.ds = false

/-- Byte address `b` reaches one of the `n` physical bytes from address `a` up (spec/20_memory.md R73). -/
def Reaches (s : State) (a : Word) (n : Nat) (b : Word) : Prop :=
  ∃ k, k < n ∧ s.phys b = s.phys (a + BitVec.ofNat 32 k)

/-! ### What one instruction does -/

/-- The instruction completes, writes `v` to register `d` (nothing, if that is `r0`) and changes nothing else but
where execution goes on (spec/10_state.md R21, R29). -/
def Computes (s : State) (i : Instr) (d : RegNo) (v : Word) : Prop :=
  ∃ t, exec i s = .next t ∧ t.reg d = (if d = 0#5 then 0#32 else v) ∧ KeepsRegsBut d s t ∧ KeepsHiLo s t ∧
    KeepsCp0 s t ∧ KeepsMemory s t ∧ KeepsOutside s t ∧ GoesOn s t

/-- `t` is `s` after trap entry (spec/60_exceptions.md R320), with the exception code, the coprocessor number where
one is recorded, and the bad address where one is recorded. `cause.CE` and `badvaddr` are not spoken of otherwise. -/
structure EntersTrap (s t : State) (code : BitVec 5) (ce : Option (BitVec 2)) (bad : Option Word) : Prop where
  epc : t.epc = (if s.ds = true then s.pc - 4#32 else s.pc)
  bd : t.cause.bd = s.ds
  excCode : t.cause.excCode = code
  coprocessor : ∀ z, ce = some z → t.cause.ce = z
  badAddress : ∀ a, bad = some a → t.badvaddr = a
  kuO : t.status.kuO = s.status.kuP
  ieO : t.status.ieO = s.status.ieP
  kuP : t.status.kuP = s.status.kuC
  ieP : t.status.ieP = s.status.ieC
  kuC : t.status.kuC = false
  ieC : t.status.ieC = false
  pc : t.pc = 0x00001100#32
  npc : t.npc = 0x00001104#32
  ds : t.ds = false
  masks : t.status.cu0 = s.status.cu0 ∧ t.status.im7 = s.status.im7 ∧ t.status.im6 = s.status.im6
  pending : t.cause.ip7 = s.cause.ip7 ∧ t.cause.ip6 = s.cause.ip6
  regs : KeepsRegs s t
  hiLo : KeepsHiLo s t
  timer : t.count = s.count ∧ t.compare = s.compare
  host : t.fromhost = s.fromhost ∧ t.tohost = s.tohost
  memory : KeepsMemory s t
  outside : KeepsOutside s t

/-- The instruction's whole effect is trap entry. -/
def Traps (s : State) (i : Instr) (code : BitVec 5) (ce : Option (BitVec 2)) (bad : Option Word) : Prop :=
  ∃ t, exec i s = .next t ∧ EntersTrap s t code ce bad

/-- The instruction completes, changes `hi` and `lo` at most, and goes on. The two values are `hi` and `lo`
afterwards. -/
def SetsHiLo (s : State) (i : Instr) (result : Word → Word → Prop) : Prop :=
  ∃ t, exec i s = .next t ∧ result t.hi t.lo ∧ KeepsRegs s t ∧ KeepsCp0 s t ∧ KeepsMemory s t ∧ KeepsOutside s t ∧
    GoesOn s t

/-- The instruction completes as a control transfer: it leaves `pc`, `npc` and `ds` as given, writes the link value
`pc + 8` to the link register if there is one (nothing, if that is `r0`), and changes nothing else. -/
def Transfers (s : State) (i : Instr) (link : Option RegNo) (pc npc : Word) (ds : Bool) : Prop :=
  ∃ t, exec i s = .next t ∧ t.pc = pc ∧ t.npc = npc ∧ t.ds = ds ∧
    (∀ r, t.reg r = (if r ≠ 0#5 ∧ link = some r then s.pc + 8#32 else s.reg r)) ∧
    KeepsHiLo s t ∧ KeepsCp0 s t ∧ KeepsMemory s t ∧ KeepsOutside s t

/-- The `k`-th of `n` bytes from address `a` up is the last of them to reach its physical byte: the others after it
reach others. It always is, where the memory controller decodes at least two address bits and the `n` bytes are an
aligned halfword or word (spec/20_memory.md R73, R75). -/
def LastToReach (s : State) (a : Word) (n k : Nat) : Prop :=
  ∀ j, k < j → j < n → s.phys (a + BitVec.ofNat 32 k) ≠ s.phys (a + BitVec.ofNat 32 j)

/-- The store completes: of memory it changes only the `n` bytes from address `ea` up, which read as `bytes` says,
the word around `ea` is marked, and nothing else changes. -/
def Stores (s : State) (i : Instr) (n : Nat) (ea : Word) (bytes : Nat → Byte) : Prop :=
  ∃ t, exec i s = .next t ∧
    (∀ k, k < n → LastToReach s ea n k → t.readByte (ea + BitVec.ofNat 32 k) = bytes k) ∧
    (∀ b, ¬Reaches s ea n b → t.readByte b = s.readByte b) ∧
    (∀ m, (Marks.lookup t.marks m).isSome = ((Marks.lookup s.marks m).isSome || m == s.wordNo ea)) ∧
    KeepsRegs s t ∧ KeepsHiLo s t ∧ KeepsCp0 s t ∧ KeepsOutside s t ∧ GoesOn s t

/-- A data access of `n` bytes at `a` is allowed: aligned, and in kuseg or made in kernel mode (spec/20_memory.md R72,
R77). -/
def DataAllowed (s : State) (n : Nat) (a : Word) : Prop :=
  a.toNat % n = 0 ∧ (s.status.kuC = true → 2 ^ 31 ≤ a.toNat)

/-- CP0 may be used (spec/10_state.md R32). -/
def Cop0Allowed (s : State) : Prop := s.status.kuC = false ∨ s.status.cu0 = true

/-! ### Words and the cells of the opcode charts (spec/30_encoding.md) -/

/-- The instruction is encoded as the word, and the word decodes to it. -/
def HasWord (i : Instr) (w : Word) : Prop := encode i = w ∧ decode w = .instr i

/-- The reserved encodings as spec/30_encoding.md R120 lists them, SYNC (which the rule lists too) left to its own
constructor of Instr. -/
def ReservedCell (w : Word) : Prop :=
  let op := w.toNat / 2 ^ 26
  let funct := w.toNat % 2 ^ 6
  let rt := w.toNat / 2 ^ 16 % 2 ^ 5
  (0b011000 ≤ op ∧ op ≤ 0b011111) ∨ op = 0b100010 ∨ op = 0b100110 ∨ op = 0b100111 ∨ op = 0b101010 ∨
    (0b101100 ≤ op ∧ op ≤ 0b101111) ∨ op = 0b110000 ∨ op = 0b110100 ∨ op = 0b111000 ∨ op = 0b111100 ∨
    (op = 0b000000 ∧ (funct = 0b000001 ∨ funct = 0b000101 ∨ funct = 0b001010 ∨ funct = 0b001011 ∨ funct = 0b001110 ∨
      (0b010100 ≤ funct ∧ funct ≤ 0b010111) ∨ (0b011100 ≤ funct ∧ funct ≤ 0b011111) ∨ funct = 0b101000 ∨
      funct = 0b101001 ∨ (0b101100 ≤ funct ∧ funct ≤ 0b101111) ∨ (0b110000 ≤ funct ∧ funct ≤ 0b111111))) ∨
    (op = 0b000001 ∧ ((0b00100 ≤ rt ∧ rt ≤ 0b01111) ∨ (0b10100 ≤ rt ∧ rt ≤ 0b11111)))

/-- SYNC's cell, which spec/30_encoding.md R120 lists among the reserved ones. -/
def SyncCell (w : Word) : Prop := w.toNat / 2 ^ 26 = 0b000000 ∧ w.toNat % 2 ^ 6 = 0b001111

/-- The illegal COP0 encodings as spec/30_encoding.md R121 lists them. -/
def IllegalCop0Cell (w : Word) : Prop :=
  let rs := w.toNat / 2 ^ 21 % 2 ^ 5
  let funct := w.toNat % 2 ^ 6
  w.toNat / 2 ^ 26 = 0b010000 ∧
    ((0b00001 ≤ rs ∧ rs ≤ 0b00011) ∨ (0b00101 ≤ rs ∧ rs ≤ 0b01111) ∨
      (0b10000 ≤ rs ∧ funct ≠ 0b010000 ∧ funct ≠ 0b010100))

/-- The word's major opcode is one of the chart's cells for coprocessor 1, 2 or 3 (spec/30_encoding.md R122). -/
def CoprocessorCell (w : Word) (z : BitVec 2) : Prop :=
  let op := w.toNat / 2 ^ 26
  (z = 1#2 ∧ (op = 0b010001 ∨ op = 0b110001 ∨ op = 0b110101 ∨ op = 0b111001 ∨ op = 0b111101)) ∨
    (z = 2#2 ∧ (op = 0b010010 ∨ op = 0b110010 ∨ op = 0b110110 ∨ op = 0b111010 ∨ op = 0b111110)) ∨
    (z = 3#2 ∧ (op = 0b010011 ∨ op = 0b110011 ∨ op = 0b110111 ∨ op = 0b111011 ∨ op = 0b111111))

/-! ### One step -/

/-- The value a host's act writes to `fromhost`, if it writes it. -/
def HostAct.fromhostWritten : HostAct → Option Byte
  | .writeFromhost v => some v
  | .writeIp6 _ => none
  | .readTohost => none

/-- The value a host's act writes to `cause.ip6`, if it writes it. -/
def HostAct.ip6Written : HostAct → Option Bool
  | .writeFromhost _ => none
  | .writeIp6 b => some b
  | .readTohost => none

/-- The step from `s` gets as far as running instruction `i`: no reset, no interrupt, a fetch that succeeds, and a word
that decodes to `i` or selects `i`'s cell. -/
def StepRuns (s : State) (i : Instr) : Prop :=
  let u := s.tick s.input
  s.input.reset = none ∧ u.dueInterrupt = none ∧ u.fetchFaults = false ∧
    ∃ w, u.fetch = some w ∧ (decode w = .instr i ∨ decode w = .shouldBeZero i)

/-- The step from `s` gets as far as the fetch: no reset, no interrupt, and the fetch check passes
(spec/10_state.md R29). -/
def StepReachesFetch (s : State) : Prop :=
  let u := s.tick s.input
  s.input.reset = none ∧ u.dueInterrupt = none ∧ u.fetchFaults = false

/-- The step from `s` gets as far as decoding the word `w`. -/
def StepFetches (s : State) (w : Word) : Prop := StepReachesFetch s ∧ (s.tick s.input).fetch = some w

/-- The twenty jumps and branches, with the given operands (spec/44_jumps_branches.md R255). -/
def transferForms (rd rs rt : RegNo) (imm : BitVec 16) (target : BitVec 26) : List Instr :=
  [.j target, .jal target, .jr rs, .jalr rd rs, .beq rs rt imm, .bne rs rt imm, .blez rs imm, .bgtz rs imm,
    .bltz rs imm, .bgez rs imm, .beql rs rt imm, .bnel rs rt imm, .blezl rs imm, .bgtzl rs imm, .bltzl rs imm,
    .bgezl rs imm, .bltzal rs imm, .bgezal rs imm, .bltzall rs imm, .bgezall rs imm]

/-- The instruction is a jump or branch. -/
def IsTransfer (i : Instr) : Prop := ∃ rd rs rt imm target, i ∈ transferForms rd rs rt imm target

/-- Two states agree on what user mode without `CU[0]` may see: everything but the CP0 registers and the bytes that no
kuseg address reaches (spec/10_state.md R32; spec/20_memory.md R71, R72). -/
structure UserView (s s' : State) : Prop where
  regs : KeepsRegs s s'
  hiLo : KeepsHiLo s s'
  flow : s'.pc = s.pc ∧ s'.npc = s.npc ∧ s'.ds = s.ds
  kuseg : ∀ a : Word, 2 ^ 31 ≤ a.toNat → s'.readByte a = s.readByte a
  params : s'.params = s.params
  draws : s'.draws = s.draws

/-- The condition of an interrupt holds (spec/60_exceptions.md R312): globally enabled, pending and enabled by its mask;
the timer's only where the host's does not. -/
def InterruptPending (s : State) (e : Exc) : Prop :=
  let host := s.cause.ip6 = true ∧ s.status.im6 = true
  s.status.ieC = true ∧ ((e = .hint ∧ host) ∨ (e = .tint ∧ ¬host ∧ s.cause.ip7 = true ∧ s.status.im7 = true))

/-- The code of an interrupt (spec/60_exceptions.md R311). -/
def interruptCode (e : Exc) : BitVec 5 := if e = .hint then 0#5 else 2#5

/-- One of the ten exception codes (spec/60_exceptions.md R300). -/
def IsExcCode (code : BitVec 5) : Prop :=
  code = 0#5 ∨ code = 2#5 ∨ code = 4#5 ∨ code = 5#5 ∨ code = 6#5 ∨ code = 8#5 ∨ code = 9#5 ∨ code = 10#5 ∨
    code = 11#5 ∨ code = 12#5

end Sys2Proof
end

