-- ==== Sys2Proof/Certificates/Slice0/Obligations.lean ====
section
/-! DEFINITION. What is to be proved of this model, from the numbered rules of spec/. The shapes (Computes, Traps,
Stores, Transfers, ...) and the invariant StateInv are defined in Sys2Proof/Safety.lean. A statement whose docstring says
'the model's choice' rests on a log entry as well as on the rules it names. -/

open Sys2Proof Sys2Proof.Machine

/-! ## Encoding -/

/-- Decoding the word of any instruction, whatever its operands, gives the instruction back. -/
def Obligations.DecodeOfEncode : Prop := ∀ i, decode (encode i) = .instr i

/-- A word that decodes to an instruction is that instruction's word: no bit of it is dropped. -/
def Obligations.EncodeOfDecode : Prop := ∀ w i, decode w = .instr i → encode i = w

/-- Every word is in exactly one case: it agrees with the full pattern of a row of R117 (or R122), it selects a row's
cell with a should-be-zero field set, it is reserved, or it is an illegal COP0 word. -/
def Obligations.DecodePartition : Prop :=
  ∀ w,
    ((∃ i, decode w = .instr i) ↔ wellFormedWord w = true) ∧
      ((∃ i, decode w = .shouldBeZero i) ↔
        wellFormedWord w = false ∧ ∃ r ∈ opcodeRows, r.selects w = true ∧ r.conforms w = false) ∧
      (decode w = .reserved ↔ ReservedCell w) ∧
      (decode w = .illegalCop0 ↔ IllegalCop0Cell w)

/-- The instruction of a word with should-be-zero fields set is the one whose cell it selects, with those fields taken
as zero and every operand as it stands. -/
def Obligations.ShouldBeZeroOperands : Prop :=
  ∀ w i, decode w = .shouldBeZero i →
    i.row.selects w = true ∧ i.row.conforms w = false ∧ encode i = (w &&& ~~~i.row.mask) ||| i.row.pattern

/-- Words written out from the encodings of the rules named decode to the instructions those rules give them. -/
def Obligations.SampleWordsDecode : Prop :=
  decode 0x8085ffff#32 = .instr (.lb 5#5 4#5 0xffff#16) ∧ decode 0xafbffffc#32 = .instr (.sw 31#5 29#5 0xfffc#16) ∧
    decode 0x2085fffd#32 = .instr (.addi 5#5 4#5 0xfffd#16) ∧ decode 0x3c058000#32 = .instr (.lui 5#5 0x8000#16) ∧
    decode 0x00853020#32 = .instr (.add 6#5 4#5 5#5) ∧ decode 0x00853004#32 = .instr (.sllv 6#5 5#5 4#5) ∧
    decode 0x00053103#32 = .instr (.sra 6#5 5#5 4#5) ∧ decode 0x0085001a#32 = .instr (.div 4#5 5#5) ∧
    decode 0x00003012#32 = .instr (.mflo 6#5) ∧ decode 0x0e000040#32 = .instr (.jal 0x2000040#26) ∧
    decode 0x0120f809#32 = .instr (.jalr 31#5 9#5) ∧ decode 0x04920004#32 = .instr (.bltzall 4#5 4#16) ∧
    decode 0x5480fffe#32 = .instr (.bnel 4#5 0#5 0xfffe#16) ∧ decode 0x401a7000#32 = .instr (.mfc0 26#5 14#5) ∧
    decode 0x4084a800#32 = .instr (.mtc0 4#5 21#5) ∧ decode 0x42000010#32 = .instr .rfe ∧
    decode 0x42000014#32 = .instr .icinv ∧ decode 0x0000000f#32 = .instr (.sync 0#20)

/-- A reserved word, and every word of SYNC's cell, raises RI in either mode with no other effect. That SYNC is among them
is the spec's resolution C1 (log 28). -/
def Obligations.ReservedWordsRaiseRI : Prop :=
  ∀ (s : State) (w : Word), ReservedCell w ∨ SyncCell w → ∃ t, s.runWord w = .next t ∧ EntersTrap s t 10#5 none none

/-- CpU is raised by every COP0 word in user mode without CU[0], with coprocessor number 0, and by every word of a
coprocessor cell, with coprocessor number 1, 2 or 3, in either mode. -/
def Obligations.CoprocessorUnusableWords : Prop :=
  ∀ (s : State) (w : Word),
    (w.toNat / 2 ^ 26 = 0b010000 → s.status.kuC = true → s.status.cu0 = false →
      ∃ t, s.runWord w = .next t ∧ EntersTrap s t 11#5 (some 0#2) none) ∧
    ∀ z, CoprocessorCell w z → ∃ t, s.runWord w = .next t ∧ EntersTrap s t 11#5 (some z) none

/-- Where CP0 may be used, an illegal COP0 word is given no meaning: it is refused, never trapped. The source says only
that such a word raises no RI; that it is refused, neither a no-op nor a trap, is the spec's decision D2 (log 27,
DEDUCED). -/
def Obligations.IllegalCop0WordsRefused : Prop :=
  ∀ (s : State) (w : Word), Cop0Allowed s → IllegalCop0Cell w → s.runWord w = .refused .illegalCop0

/-- A word with a should-be-zero field set does what SBZ_POLICY says, once the COP0 usability test has passed. The
model's choice: under ri a COP0 word of that kind raises RI as well, although R306 says that no COP0 word does (log 11),
and the usability test comes before the policy (log 42). -/
def Obligations.ShouldBeZeroPolicy : Prop :=
  ∀ (s : State) (w : Word) (i : Instr), decode w = .shouldBeZero i → (w.toNat / 2 ^ 26 ≠ 0b010000 ∨ Cop0Allowed s) →
    (s.params.sbz = .refuse → s.runWord w = .refused .shouldBeZero) ∧
      (s.params.sbz = .ignore → s.runWord w = exec i s) ∧
      (s.params.sbz = .ri → ∃ t, s.runWord w = .next t ∧ EntersTrap s t 10#5 none none)

/-! ## The instruction cycle -/

/-- A step with no reset and no interrupt to be taken, at an aligned pc that the mode may fetch from and that holds no stale word,
whose four bytes decode to an instruction, is that instruction on the state after time has passed. -/
def Obligations.StepRunsTheDecodedInstruction : Prop :=
  ∀ (s : State) (i : Instr), s.input.reset = none →
    let u := s.tick s.input
    u.dueInterrupt = none → u.pc.toNat % 4 = 0 →
    (u.status.kuC = true → 2 ^ 31 ≤ u.pc.toNat) → Marks.lookup u.marks (u.wordNo u.pc) = none →
    decodeBytes [u.readByte u.pc, u.readByte (u.pc + 1#32), u.readByte (u.pc + 2#32), u.readByte (u.pc + 3#32)] =
      some (.instr i) →
    step s = exec i u

/-- Before the instruction, `count` goes up by the elapsed cycles, at least one (D11, log 6), modulo 2^32, and the timer
flag is set exactly when it was set or `count` met `compare` in one of those cycles. Of the spec's state nothing but
`count`, the two pending flags and `fromhost` changes. -/
def Obligations.TimePasses : Prop :=
  ∀ (s : State) (i : StepInput),
    let u := s.tick i
    1 ≤ i.cycles ∧ u.count = s.count + BitVec.ofNat 32 i.cycles ∧
      (u.cause.ip7 = true ↔
        s.cause.ip7 = true ∨ ∃ k, 1 ≤ k ∧ k ≤ i.cycles ∧ s.count + BitVec.ofNat 32 k = s.compare) ∧
      KeepsRegs s u ∧ KeepsHiLo s u ∧ KeepsMemory s u ∧ u.pc = s.pc ∧ u.npc = s.npc ∧ u.ds = s.ds ∧
      u.status = s.status ∧ u.badvaddr = s.badvaddr ∧ u.compare = s.compare ∧ u.epc = s.epc ∧ u.tohost = s.tohost ∧
      u.cause.bd = s.cause.bd ∧ u.cause.ce = s.cause.ce ∧ u.cause.excCode = s.cause.excCode ∧ u.params = s.params

/-- The host's acts between two instructions: the last write of `fromhost` and the last write of `ip6` are what the CPU
then sees; where there is none, the old value. -/
def Obligations.HostActs : Prop :=
  ∀ (s : State) (i : StepInput),
    (s.tick i).fromhost = (i.acts.filterMap HostAct.fromhostWritten).getLast?.getD s.fromhost ∧
      (s.tick i).cause.ip6 = (i.acts.filterMap HostAct.ip6Written).getLast?.getD s.cause.ip6

/-- An interrupt whose condition holds, the host's before the timer's, waits, and where it may be deferred no more it enters
the handler instead of the instruction. From every state there is a number of boundaries, at most INT_LATENCY where that
is a bound, after which it has been taken, unless a reset has come or its condition has failed at one of them. The count of
a deferral is the model's own field (log 46). -/
def Obligations.InterruptTaken : Prop :=
  (∀ (s : State) (i : StepInput) (e : Exc), i.reset = none →
    let u := s.tick i
    InterruptPending u e →
    ∃ k, u.waiting = some ⟨e, k⟩ ∧ (k = 0 → ∃ t, s.cycleWith i = .next t ∧ EntersTrap u t (interruptCode e) none none)) ∧
  ∀ (s : State) (e : Exc), StateInv s → ∃ n, (∀ b, s.params.intLatency = some b → n ≤ b) ∧
    ∀ t, core.run (n + 1) s = .next t → ∃ k v w, k ≤ n ∧ core.run k s = .next v ∧ step v = .next w ∧
      (v.input.reset.isSome = true ∨ ¬InterruptPending (v.tick v.input) e ∨
        EntersTrap (v.tick v.input) w (interruptCode e) none none)

/-- An interrupt can only occur if its condition holds: else the instruction runs and nothing waits. The instruction also
runs where the interrupt is deferred at this boundary. An interrupt that waited at the boundary before may be deferred at
one boundary less; one that begins to wait, at as many as the outside draws, but no more than INT_LATENCY (logs 8, 45,
46). -/
def Obligations.InterruptNotTaken : Prop :=
  ∀ (s : State) (i : StepInput), i.reset = none →
    let u := s.tick i
    ((∀ e, ¬InterruptPending u e) → u.waiting = none ∧ s.cycleWith i = u.runInstruction) ∧
      ∀ e, InterruptPending u e → ∃ k, u.waiting = some ⟨e, k⟩ ∧ (0 < k → s.cycleWith i = u.runInstruction) ∧
        (∀ j, s.waiting = some ⟨e, j⟩ → k = j - 1) ∧
        ((∀ j, s.waiting ≠ some ⟨e, j⟩) → k ≤ i.deferral ∧ (∀ n, s.params.intLatency = some n → k ≤ n) ∧
          (k = i.deferral ∨ s.params.intLatency = some k))

/-- A fetch at a misaligned pc, or in kseg in user mode, raises AdEF; every other fetch raises nothing. -/
def Obligations.FetchAddressError : Prop :=
  ∀ s : State,
    (s.pc.toNat % 4 ≠ 0 ∨ (s.status.kuC = true ∧ s.pc.toNat < 2 ^ 31) →
      ∃ t, s.runInstruction = .next t ∧ EntersTrap s t 6#5 none none) ∧
    (s.pc.toNat % 4 = 0 → (s.status.kuC = true → 2 ^ 31 ≤ s.pc.toNat) → s.fetchFaults = false)

/-- A fetch from a word stored to since the last ICINV: no meaning when ICACHE is refuse-stale, the old word or the word
in memory when it is either-word. That these are the two policies is the spec's decision D18 (log 12). -/
def Obligations.StaleFetch : Prop :=
  ∀ (s : State) (old : Word), s.fetchFaults = false → Marks.lookup s.marks (s.wordNo s.pc) = some old →
    (s.params.icache = .refuseStale → s.runInstruction = .refused .staleFetch) ∧
      (s.params.icache = .eitherWord →
        s.runInstruction = s.runWord old ∨ s.runInstruction = s.runWord (s.readWord s.pc))

/-! ## Reset, trap entry and return -/

/-- What the spec fixes of the state after reset, the model's State.reset among the draws of RESET_STATE. That npc and ds
are so is the spec's inference (log 3), and that no word is marked as stale its decision D18 (log 39). -/
def Obligations.ResetStateOfTheSpec : Prop :=
  (∀ p r, let t := State.ofReset p r
    t.pc = 0x00001000#32 ∧ t.npc = 0x00001004#32 ∧ t.ds = false ∧ t.status.kuC = false ∧ t.status.ieC = false ∧
      t.tohost = 0#8 ∧ t.reg 0#5 = 0#32 ∧ t.marks = []) ∧
    ∃ p r, State.reset = State.ofReset p r

/-- The external reset wins over everything else in its step, a pending interrupt and a bad fetch among them: it leaves
pc at the reset vector, kernel mode, interrupts disabled and `tohost` zero, and records nothing of another event: every
other register, the registers an exception writes among them, holds what the draw of RESET_STATE gives it, and memory the
draw's image. That they are such a draw is the spec's decision D23, that no word is marked D18 (log 39), what npc and ds
are its inference (log 3); that a reset comes from the step's input, and leaves the parameters, the script and the number
of draws, the model's choice (log 9). -/
def Obligations.ExternalReset : Prop :=
  ∀ (s : State) (i : StepInput) (r : ResetState), i.reset = some r →
    ∃ t, s.cycleWith i = .next t ∧
      t = { State.ofReset s.params r with inputs := s.inputs.tail, draws := s.draws + 1 } ∧
      t.pc = 0x00001000#32 ∧ t.npc = 0x00001004#32 ∧ t.ds = false ∧ t.status.kuC = false ∧ t.status.ieC = false ∧
      t.tohost = 0#8 ∧ t.marks = [] ∧ t.waiting = none ∧ t.fetchFaults = false ∧
      t.epc = r.epc ∧ t.cause = r.cause ∧ t.badvaddr = r.badvaddr ∧
      t.status.kuP = r.kuP ∧ t.status.ieP = r.ieP ∧ t.status.kuO = r.kuO ∧ t.status.ieO = r.ieO ∧
      t.status.cu0 = r.cu0 ∧ t.status.im7 = r.im7 ∧ t.status.im6 = r.im6 ∧
      t.reg 0#5 = 0#32 ∧ (∀ n (h : n < 31), t.reg (BitVec.ofNat 5 (n + 1)) = r.regs[n]) ∧
      t.hi = r.hi ∧ t.lo = r.lo ∧ t.count = r.count ∧ t.compare = r.compare ∧ t.fromhost = r.fromhost ∧
      (∀ a, t.readByte a = Memory.read (Memory.ofImage s.params.paBits r.image) (t.phys a))

/-- Reset has its own vector, and every exception and interrupt goes to the other one. -/
def Obligations.Vectors : Prop :=
  (∀ p r, (State.ofReset p r).pc = 0x00001000#32) ∧ ∀ s e, (State.trapEntry s e).pc = 0x00001100#32

/-- Trap entry: what every exception and interrupt saves, sets and leaves alone, with the exception's own code, and with
the coprocessor number of CpU and the address of AdEL and AdES. -/
def Obligations.TrapEntry : Prop :=
  ∀ s : State,
    EntersTrap s (s.trapEntry .hint) 0#5 none none ∧ EntersTrap s (s.trapEntry .tint) 2#5 none none ∧
      (∀ a, EntersTrap s (s.trapEntry (.adEL a)) 4#5 none (some a)) ∧
      (∀ a, EntersTrap s (s.trapEntry (.adES a)) 5#5 none (some a)) ∧
      EntersTrap s (s.trapEntry .adEF) 6#5 none none ∧ EntersTrap s (s.trapEntry .sys) 8#5 none none ∧
      EntersTrap s (s.trapEntry .bp) 9#5 none none ∧ EntersTrap s (s.trapEntry .ri) 10#5 none none ∧
      (∀ z, EntersTrap s (s.trapEntry (.cpU z)) 11#5 (some z) none) ∧ EntersTrap s (s.trapEntry .ov) 12#5 none none

/-- After trap entry the CPU is in kernel mode with interrupts disabled: the handler's first fetch cannot raise AdEF, and
no interrupt is taken before it. -/
def Obligations.HandlerStarts : Prop :=
  ∀ s e, let t := State.trapEntry s e
    t.status.kuC = false ∧ t.status.ieC = false ∧ t.pc = 0x00001100#32 ∧ t.fetchFaults = false ∧
      t.pendingInterrupt = none

/-- RFE pops the KU/IE stack: the current pair from the previous, the previous from the old, the old unchanged, and no
other bit of `status`. -/
def Obligations.RfePops : Prop :=
  ∀ s, Cop0Allowed s →
    ∃ t, exec .rfe s = .next t ∧ t.status.kuC = s.status.kuP ∧ t.status.ieC = s.status.ieP ∧
      t.status.kuP = s.status.kuO ∧ t.status.ieP = s.status.ieO ∧ t.status.kuO = s.status.kuO ∧
      t.status.ieO = s.status.ieO ∧ t.status.cu0 = s.status.cu0 ∧ t.status.im7 = s.status.im7 ∧
      t.status.im6 = s.status.im6 ∧ KeepsRegs s t ∧ KeepsHiLo s t ∧ KeepsPlainCp0 s t ∧ t.cause = s.cause ∧
      KeepsMemory s t ∧ KeepsOutside s t ∧ GoesOn s t

/-- The return idiom MFC0 rk, epc; JR rk; RFE undoes a trap taken outside a delay slot: execution goes on at the
instruction that trapped, in its mode and with its interrupt enable. -/
def Obligations.ReturnIdiom : Prop :=
  ∀ s e rk, rk ≠ 0#5 →
    ∃ t₁ t₂ t₃, exec (.mfc0 rk 14#5) (State.trapEntry s e) = .next t₁ ∧ exec (.jr rk) t₁ = .next t₂ ∧
      exec .rfe t₂ = .next t₃ ∧ t₂.ds = true ∧ t₃.ds = false ∧
      t₃.pc = (if s.ds = true then s.pc - 4#32 else s.pc) ∧
      t₃.status.kuC = s.status.kuC ∧ t₃.status.ieC = s.status.ieC ∧ t₃.status.kuP = s.status.kuP ∧
      t₃.status.ieP = s.status.ieP

/-- SYSCALL raises Sys, BREAK raises Bp and SYNC raises RI, in either mode and in a delay slot too: trap entry is their
whole effect. That SYSCALL and BREAK do so whatever their bits 25:6 hold is the spec's decision D21 (log 28). -/
def Obligations.SyscallBreakSync : Prop :=
  ∀ s code, Traps s (.syscall code) 8#5 none none ∧ Traps s (.breakpoint code) 9#5 none none ∧
    Traps s (.sync code) 10#5 none none

/-- Every instruction of the opcodes of coprocessors 1, 2 and 3 raises CpU with that number. -/
def Obligations.CoprocessorUnusable : Prop :=
  ∀ s bits,
    Traps s (.cop1Unusable010001 bits) 11#5 (some 1#2) none ∧ Traps s (.cop1Unusable110001 bits) 11#5 (some 1#2) none ∧
      Traps s (.cop1Unusable110101 bits) 11#5 (some 1#2) none ∧
      Traps s (.cop1Unusable111001 bits) 11#5 (some 1#2) none ∧
      Traps s (.cop1Unusable111101 bits) 11#5 (some 1#2) none ∧
      Traps s (.cop2Unusable010010 bits) 11#5 (some 2#2) none ∧
      Traps s (.cop2Unusable110010 bits) 11#5 (some 2#2) none ∧
      Traps s (.cop2Unusable110110 bits) 11#5 (some 2#2) none ∧
      Traps s (.cop2Unusable111010 bits) 11#5 (some 2#2) none ∧
      Traps s (.cop2Unusable111110 bits) 11#5 (some 2#2) none ∧
      Traps s (.cop3Unusable010011 bits) 11#5 (some 3#2) none ∧
      Traps s (.cop3Unusable110011 bits) 11#5 (some 3#2) none ∧
      Traps s (.cop3Unusable110111 bits) 11#5 (some 3#2) none ∧
      Traps s (.cop3Unusable111011 bits) 11#5 (some 3#2) none ∧
      Traps s (.cop3Unusable111111 bits) 11#5 (some 3#2) none

/-! ## Loads and stores -/

/-- The five loads: the sign- or zero-extended big-endian value into rt where the access is allowed, else AdEL with the
effective address and no register written. -/
def Obligations.Loads : Prop :=
  ∀ (s : State) (rt rs : RegNo) (imm : BitVec 16),
    let ea := s.reg rs + imm.signExtend 32
    let half := s.readByte ea ++ s.readByte (ea + 1#32)
    HasWord (.lb rt rs imm) (0b100000#6 ++ rs ++ rt ++ imm) ∧ HasWord (.lh rt rs imm) (0b100001#6 ++ rs ++ rt ++ imm) ∧
      HasWord (.lw rt rs imm) (0b100011#6 ++ rs ++ rt ++ imm) ∧
      HasWord (.lbu rt rs imm) (0b100100#6 ++ rs ++ rt ++ imm) ∧
      HasWord (.lhu rt rs imm) (0b100101#6 ++ rs ++ rt ++ imm) ∧
      (DataAllowed s 1 ea →
        Computes s (.lb rt rs imm) rt ((s.readByte ea).signExtend 32) ∧
          Computes s (.lbu rt rs imm) rt ((s.readByte ea).zeroExtend 32)) ∧
      (DataAllowed s 2 ea →
        Computes s (.lh rt rs imm) rt (half.signExtend 32) ∧ Computes s (.lhu rt rs imm) rt (half.zeroExtend 32)) ∧
      (DataAllowed s 4 ea →
        Computes s (.lw rt rs imm) rt (half ++ s.readByte (ea + 2#32) ++ s.readByte (ea + 3#32))) ∧
      (¬DataAllowed s 1 ea →
        Traps s (.lb rt rs imm) 4#5 none (some ea) ∧ Traps s (.lbu rt rs imm) 4#5 none (some ea)) ∧
      (¬DataAllowed s 2 ea →
        Traps s (.lh rt rs imm) 4#5 none (some ea) ∧ Traps s (.lhu rt rs imm) 4#5 none (some ea)) ∧
      (¬DataAllowed s 4 ea → Traps s (.lw rt rs imm) 4#5 none (some ea))

/-- The three stores: where the access is allowed, the low byte, halfword or word of rt goes to memory in big-endian
order and no other byte changes; else AdES with the effective address and no memory written. -/
def Obligations.StoreResults : Prop :=
  ∀ (s : State) (rt rs : RegNo) (imm : BitVec 16), StateInv s →
    let ea := s.reg rs + imm.signExtend 32
    let v := s.reg rt
    HasWord (.sb rt rs imm) (0b101000#6 ++ rs ++ rt ++ imm) ∧ HasWord (.sh rt rs imm) (0b101001#6 ++ rs ++ rt ++ imm) ∧
      HasWord (.sw rt rs imm) (0b101011#6 ++ rs ++ rt ++ imm) ∧
      (DataAllowed s 1 ea → Stores s (.sb rt rs imm) 1 ea fun _ => v.extractLsb' 0 8) ∧
      (DataAllowed s 2 ea → Stores s (.sh rt rs imm) 2 ea fun k => v.extractLsb' (8 - 8 * k) 8) ∧
      (DataAllowed s 4 ea → Stores s (.sw rt rs imm) 4 ea fun k => v.extractLsb' (24 - 8 * k) 8) ∧
      (¬DataAllowed s 1 ea → Traps s (.sb rt rs imm) 5#5 none (some ea)) ∧
      (¬DataAllowed s 2 ea → Traps s (.sh rt rs imm) 5#5 none (some ea)) ∧
      (¬DataAllowed s 4 ea → Traps s (.sw rt rs imm) 5#5 none (some ea))

/-- A store marks its word as stored to since the last ICINV, and no other word; a word newly marked is marked with the
word that stood there. The model's choice: a word already marked keeps the word that stood there first (log 12). -/
def Obligations.StoresMarkTheirWord : Prop :=
  ∀ (s : State) (a : Word) (bytes : List Byte), StateInv s →
    let t := s.storeBytes a bytes
    Marks.lookup t.marks (s.wordNo a) =
        some ((Marks.lookup s.marks (s.wordNo a)).getD (s.readWord (a &&& 0xfffffffc#32))) ∧
      ∀ n, n ≠ s.wordNo a → Marks.lookup t.marks n = Marks.lookup s.marks n

/-- After SW of a word, LBU from its four bytes and LHU from its two halves give the bytes and halves from the most
significant down, and LW gives the word, where the memory controller decodes at least two address bits. -/
def Obligations.MixedWidthAccess : Prop :=
  ∀ (s : State) (rt rs rd : RegNo), StateInv s → 2 ≤ s.params.paBits → DataAllowed s 4 (s.reg rs) → rd ≠ 0#5 →
    ∃ t, exec (.sw rt rs 0#16) s = .next t ∧
      Computes t (.lw rd rs 0#16) rd (s.reg rt) ∧
      (∀ k < 4, Computes t (.lbu rd rs (BitVec.ofNat 16 k)) rd
        (BitVec.ofNat 32 ((s.reg rt).toNat / 256 ^ (3 - k) % 256))) ∧
      ∀ k < 2, Computes t (.lhu rd rs (BitVec.ofNat 16 (2 * k))) rd
        (BitVec.ofNat 32 ((s.reg rt).toNat / 65536 ^ (1 - k) % 65536))

/-- ICINV clears every mark and changes nothing else; afterwards every fetch sees memory. Where CP0 may not be used it
raises CpU. -/
def Obligations.IcinvFlushes : Prop :=
  ∀ s : State,
    HasWord .icinv 0x42000014#32 ∧
      (Cop0Allowed s → ∃ t, exec .icinv s = .next t ∧ t.marks = [] ∧ (∀ a, t.readByte a = s.readByte a) ∧
        KeepsRegs s t ∧ KeepsHiLo s t ∧ KeepsCp0 s t ∧ KeepsOutside s t ∧ GoesOn s t ∧
        t.fetch = some (t.readWord t.pc)) ∧
      (¬Cop0Allowed s → Traps s .icinv 11#5 (some 0#2) none)

/-- Alignment: a word access needs a four-byte boundary and a halfword access a two-byte boundary, else AdEL or AdES; a
byte access completes at every address the mode may touch; a fetch at a pc off a four-byte boundary raises AdEF. -/
def Obligations.Alignment : Prop :=
  ∀ (s : State) (rt rs : RegNo) (imm : BitVec 16),
    let ea := s.reg rs + imm.signExtend 32
    (ea.toNat % 4 ≠ 0 → Traps s (.lw rt rs imm) 4#5 none (some ea) ∧ Traps s (.sw rt rs imm) 5#5 none (some ea)) ∧
      (ea.toNat % 2 ≠ 0 → Traps s (.lh rt rs imm) 4#5 none (some ea) ∧ Traps s (.lhu rt rs imm) 4#5 none (some ea) ∧
        Traps s (.sh rt rs imm) 5#5 none (some ea)) ∧
      ((s.status.kuC = true → 2 ^ 31 ≤ ea.toNat) →
        (∃ v, Computes s (.lb rt rs imm) rt v) ∧ (∃ v, Computes s (.lbu rt rs imm) rt v) ∧
          ∃ t, exec (.sb rt rs imm) s = .next t ∧ GoesOn s t) ∧
      (s.pc.toNat % 4 ≠ 0 → ∃ t, s.runInstruction = .next t ∧ EntersTrap s t 6#5 none none)

/-! ## Computation -/

/-- The register-immediate instructions that never trap: the immediate sign-extended for ADDIU, SLTI and SLTIU,
zero-extended for the logical ones, and in the upper half for LUI. -/
def Obligations.ImmediateResults : Prop :=
  ∀ (s : State) (rt rs : RegNo) (imm : BitVec 16),
    let a := s.reg rs
    let z := imm.zeroExtend 32
    HasWord (.addiu rt rs imm) (0b001001#6 ++ rs ++ rt ++ imm) ∧
      Computes s (.addiu rt rs imm) rt (a + imm.signExtend 32) ∧
      HasWord (.slti rt rs imm) (0b001010#6 ++ rs ++ rt ++ imm) ∧
      Computes s (.slti rt rs imm) rt (if a.toInt < imm.toInt then 1#32 else 0#32) ∧
      HasWord (.sltiu rt rs imm) (0b001011#6 ++ rs ++ rt ++ imm) ∧
      Computes s (.sltiu rt rs imm) rt (if a.toNat < (imm.signExtend 32).toNat then 1#32 else 0#32) ∧
      HasWord (.andi rt rs imm) (0b001100#6 ++ rs ++ rt ++ imm) ∧ Computes s (.andi rt rs imm) rt (a &&& z) ∧
      HasWord (.ori rt rs imm) (0b001101#6 ++ rs ++ rt ++ imm) ∧ Computes s (.ori rt rs imm) rt (a ||| z) ∧
      HasWord (.xori rt rs imm) (0b001110#6 ++ rs ++ rt ++ imm) ∧ Computes s (.xori rt rs imm) rt (a ^^^ z) ∧
      HasWord (.lui rt imm) (0b001111#6 ++ 0#5 ++ rt ++ imm) ∧ Computes s (.lui rt imm) rt (z <<< 16)

/-- The register-register arithmetic, comparison and logical instructions that never trap. -/
def Obligations.RegisterResults : Prop :=
  ∀ (s : State) (rd rs rt : RegNo),
    let a := s.reg rs
    let b := s.reg rt
    let word (funct : BitVec 6) : Word := 0#6 ++ rs ++ rt ++ rd ++ 0#5 ++ funct
    HasWord (.addu rd rs rt) (word 0b100001#6) ∧ Computes s (.addu rd rs rt) rd (a + b) ∧
      HasWord (.subu rd rs rt) (word 0b100011#6) ∧ Computes s (.subu rd rs rt) rd (a - b) ∧
      HasWord (.slt rd rs rt) (word 0b101010#6) ∧
      Computes s (.slt rd rs rt) rd (if a.toInt < b.toInt then 1#32 else 0#32) ∧
      HasWord (.sltu rd rs rt) (word 0b101011#6) ∧
      Computes s (.sltu rd rs rt) rd (if a.toNat < b.toNat then 1#32 else 0#32) ∧
      HasWord (.and rd rs rt) (word 0b100100#6) ∧ Computes s (.and rd rs rt) rd (a &&& b) ∧
      HasWord (.or rd rs rt) (word 0b100101#6) ∧ Computes s (.or rd rs rt) rd (a ||| b) ∧
      HasWord (.xor rd rs rt) (word 0b100110#6) ∧ Computes s (.xor rd rs rt) rd (a ^^^ b) ∧
      HasWord (.nor rd rs rt) (word 0b100111#6) ∧ Computes s (.nor rd rs rt) rd (~~~(a ||| b))

/-- The six shifts, bit by bit: zeros enter from the right on a left shift, zeros or copies of the sign bit from the left
on a right shift, and a shift by register takes the bottom five bits of rs. -/
def Obligations.ShiftResults : Prop :=
  ∀ (s : State) (rd rt rs : RegNo) (shamt : BitVec 5),
    let left (v : Word) (n : Nat) (r : Word) := ∀ k < 32, r.getLsbD k = (decide (n ≤ k) && v.getLsbD (k - n))
    let right (v : Word) (n : Nat) (fill : Bool) (r : Word) :=
      ∀ k < 32, r.getLsbD k = if k + n < 32 then v.getLsbD (k + n) else fill
    let v := s.reg rt
    let n := (s.reg rs).toNat % 32
    let byAmount (funct : BitVec 6) : Word := 0#6 ++ 0#5 ++ rt ++ rd ++ shamt ++ funct
    let byRegister (funct : BitVec 6) : Word := 0#6 ++ rs ++ rt ++ rd ++ 0#5 ++ funct
    (HasWord (.sll rd rt shamt) (byAmount 0b000000#6) ∧
        ∃ r, Computes s (.sll rd rt shamt) rd r ∧ left v shamt.toNat r) ∧
      (HasWord (.srl rd rt shamt) (byAmount 0b000010#6) ∧
        ∃ r, Computes s (.srl rd rt shamt) rd r ∧ right v shamt.toNat false r) ∧
      (HasWord (.sra rd rt shamt) (byAmount 0b000011#6) ∧
        ∃ r, Computes s (.sra rd rt shamt) rd r ∧ right v shamt.toNat v.msb r) ∧
      (HasWord (.sllv rd rt rs) (byRegister 0b000100#6) ∧ ∃ r, Computes s (.sllv rd rt rs) rd r ∧ left v n r) ∧
      (HasWord (.srlv rd rt rs) (byRegister 0b000110#6) ∧ ∃ r, Computes s (.srlv rd rt rs) rd r ∧ right v n false r) ∧
      (HasWord (.srav rd rt rs) (byRegister 0b000111#6) ∧ ∃ r, Computes s (.srav rd rt rs) rd r ∧ right v n v.msb r)

/-- ADD, ADDI and SUB raise Ov exactly when the exact signed result is outside the signed 32-bit range, else they write
the sum or difference modulo 2^32. That no register is written on Ov follows the spec's decision D14 (log 25). -/
def Obligations.OverflowTraps : Prop :=
  ∀ (s : State) (rd rs rt : RegNo) (imm : BitVec 16),
    let a := s.reg rs
    let b := s.reg rt
    let fits (r : Int) := -2 ^ 31 ≤ r ∧ r ≤ 2 ^ 31 - 1
    (fits (a.toInt + b.toInt) → Computes s (.add rd rs rt) rd (a + b)) ∧
      (¬fits (a.toInt + b.toInt) → Traps s (.add rd rs rt) 12#5 none none) ∧
      (fits (a.toInt + imm.toInt) → Computes s (.addi rt rs imm) rt (a + imm.signExtend 32)) ∧
      (¬fits (a.toInt + imm.toInt) → Traps s (.addi rt rs imm) 12#5 none none) ∧
      (fits (a.toInt - b.toInt) → Computes s (.sub rd rs rt) rd (a - b)) ∧
      (¬fits (a.toInt - b.toInt) → Traps s (.sub rd rs rt) 12#5 none none)

/-- The overflow test by sign bits: a sum overflows when its operands have one sign and the sum the other; a difference
when its operands differ in sign and the difference's sign is not the first one's. -/
def Obligations.OverflowBySigns : Prop :=
  ∀ a b : Word,
    (addOverflows a b = true ↔ a.msb = b.msb ∧ (a + b).msb ≠ a.msb) ∧
      (subOverflows a b = true ↔ a.msb ≠ b.msb ∧ (a - b).msb ≠ a.msb)

/-- MULT and MULTU leave the exact 64-bit product in hi (upper half) and lo (lower half) and write nothing else. Which half
goes where is the spec's inference from the registers' names and the MIPS convention, PRESUMED (log 24). -/
def Obligations.MultiplyResults : Prop :=
  ∀ (s : State) (rs rt : RegNo),
    SetsHiLo s (.mult rs rt)
        (fun hi lo => hi.toInt * 2 ^ 32 + (lo.toNat : Int) = (s.reg rs).toInt * (s.reg rt).toInt) ∧
      SetsHiLo s (.multu rs rt)
        (fun hi lo => hi.toNat * 2 ^ 32 + lo.toNat = (s.reg rs).toNat * (s.reg rt).toNat)

/-- DIV and DIVU with a result: quotient in lo, remainder in hi, n = q*d + r with r smaller than d; the signed remainder
is zero or takes the dividend's sign. Truncation is PRESUMED (log 23). -/
def Obligations.DivideResults : Prop :=
  ∀ (s : State) (rs rt : RegNo),
    let n := s.reg rs
    let d := s.reg rt
    (d ≠ 0#32 → ¬(n.toInt = -2 ^ 31 ∧ d.toInt = -1) →
      SetsHiLo s (.div rs rt) fun hi lo =>
        n.toInt = lo.toInt * d.toInt + hi.toInt ∧ hi.toInt.natAbs < d.toInt.natAbs ∧
          (hi.toInt = 0 ∨ (hi.toInt < 0 ↔ n.toInt < 0))) ∧
      (d ≠ 0#32 →
        SetsHiLo s (.divu rs rt) fun hi lo => n.toNat = lo.toNat * d.toNat + hi.toNat ∧ hi.toNat < d.toNat)

/-- A divide by zero, and the most negative number by -1, complete without a trap; only hi and lo change, to values the
spec leaves open (free values, log 22). -/
def Obligations.DivideOpenCorners : Prop :=
  ∀ (s : State) (rs rt : RegNo),
    (s.reg rt = 0#32 → SetsHiLo s (.div rs rt) (fun _ _ => True) ∧ SetsHiLo s (.divu rs rt) fun _ _ => True) ∧
      ((s.reg rs).toInt = -2 ^ 31 → (s.reg rt).toInt = -1 → SetsHiLo s (.div rs rt) fun _ _ => True)

/-- MFHI and MFLO copy hi and lo to rd; MTHI and MTLO copy rs to the one register and leave the other. -/
def Obligations.HiLoMoves : Prop :=
  ∀ (s : State) (rd rs : RegNo),
    HasWord (.mfhi rd) (0#6 ++ 0#5 ++ 0#5 ++ rd ++ 0#5 ++ 0b010000#6) ∧ Computes s (.mfhi rd) rd s.hi ∧
      HasWord (.mflo rd) (0#6 ++ 0#5 ++ 0#5 ++ rd ++ 0#5 ++ 0b010010#6) ∧ Computes s (.mflo rd) rd s.lo ∧
      HasWord (.mthi rs) (0#6 ++ rs ++ 0#5 ++ 0#5 ++ 0#5 ++ 0b010001#6) ∧
      SetsHiLo s (.mthi rs) (fun hi lo => hi = s.reg rs ∧ lo = s.lo) ∧
      HasWord (.mtlo rs) (0#6 ++ rs ++ 0#5 ++ 0#5 ++ 0#5 ++ 0b010011#6) ∧
      SetsHiLo s (.mtlo rs) (fun hi lo => hi = s.hi ∧ lo = s.reg rs)

/-! ## Jumps and branches -/

/-- The four jumps outside a delay slot: the delay slot is next, then the target; JAL and JALR write pc + 8. The target
of J and JAL takes its top four bits from the delay slot's address; JALR reads rs before it writes rd (log 31). -/
def Obligations.Jumps : Prop :=
  ∀ (s : State) (rd rs : RegNo) (target : BitVec 26), s.ds = false →
    let far := BitVec.ofNat 32 ((s.pc + 4#32).toNat / 2 ^ 28 * 2 ^ 28 + target.toNat * 4)
    Transfers s (.j target) none s.npc far true ∧ Transfers s (.jal target) (some 31#5) s.npc far true ∧
      Transfers s (.jr rs) none s.npc (s.reg rs) true ∧ Transfers s (.jalr rd rs) (some rd) s.npc (s.reg rs) true

/-- The six conditional branches outside a delay slot: the delay slot is next, then the target or the instruction after
it. That a not-taken branch still marks its slot is the spec's inference (log 34). -/
def Obligations.Branches : Prop :=
  ∀ (s : State) (rs rt : RegNo) (imm : BitVec 16), s.ds = false →
    let a := s.reg rs
    let goesTo (taken : Prop) [Decidable taken] : Word :=
      if taken then s.pc + 4#32 + BitVec.ofInt 32 (4 * imm.toInt) else s.npc + 4#32
    Transfers s (.beq rs rt imm) none s.npc (goesTo (a = s.reg rt)) true ∧
      Transfers s (.bne rs rt imm) none s.npc (goesTo (a ≠ s.reg rt)) true ∧
      Transfers s (.blez rs imm) none s.npc (goesTo (a.toInt ≤ 0)) true ∧
      Transfers s (.bgtz rs imm) none s.npc (goesTo (0 < a.toInt)) true ∧
      Transfers s (.bltz rs imm) none s.npc (goesTo (a.toInt < 0)) true ∧
      Transfers s (.bgez rs imm) none s.npc (goesTo (0 ≤ a.toInt)) true

/-- The six branch-likelies outside a delay slot: taken they go as the plain branch, not taken they skip the slot. -/
def Obligations.LikelyBranches : Prop :=
  ∀ (s : State) (rs rt : RegNo) (imm : BitVec 16), s.ds = false →
    let a := s.reg rs
    let likely (i : Instr) (taken : Prop) :=
      (taken → Transfers s i none s.npc (s.pc + 4#32 + BitVec.ofInt 32 (4 * imm.toInt)) true) ∧
        (¬taken → Transfers s i none (s.pc + 8#32) (s.pc + 12#32) false)
    likely (.beql rs rt imm) (a = s.reg rt) ∧ likely (.bnel rs rt imm) (a ≠ s.reg rt) ∧
      likely (.blezl rs imm) (a.toInt ≤ 0) ∧ likely (.bgtzl rs imm) (0 < a.toInt) ∧
      likely (.bltzl rs imm) (a.toInt < 0) ∧ likely (.bgezl rs imm) (0 ≤ a.toInt)

/-- The four branch-and-links outside a delay slot: r31 gets pc + 8 whether or not the branch is taken, and the condition
is on the old rs (log 31). That the likely forms link regardless is the spec's inference (log 35). -/
def Obligations.LinkBranches : Prop :=
  ∀ (s : State) (rs : RegNo) (imm : BitVec 16), s.ds = false →
    let a := s.reg rs
    let there := s.pc + 4#32 + BitVec.ofInt 32 (4 * imm.toInt)
    Transfers s (.bltzal rs imm) (some 31#5) s.npc (if a.toInt < 0 then there else s.npc + 4#32) true ∧
      Transfers s (.bgezal rs imm) (some 31#5) s.npc (if 0 ≤ a.toInt then there else s.npc + 4#32) true ∧
      (a.toInt < 0 → Transfers s (.bltzall rs imm) (some 31#5) s.npc there true) ∧
      (¬a.toInt < 0 → Transfers s (.bltzall rs imm) (some 31#5) (s.pc + 8#32) (s.pc + 12#32) false) ∧
      (0 ≤ a.toInt → Transfers s (.bgezall rs imm) (some 31#5) s.npc there true) ∧
      (¬0 ≤ a.toInt → Transfers s (.bgezall rs imm) (some 31#5) (s.pc + 8#32) (s.pc + 12#32) false)

/-- JALR with destination r0 does what JR does. -/
def Obligations.JalrZeroIsJr : Prop := ∀ (s : State) (rs : RegNo), exec (.jalr 0#5 rs) s = exec (.jr rs) s

/-- A jump or branch standing in a delay slot is given no meaning: each of the twenty is refused. That it is refused is the
spec's decision D4 (log 26). -/
def Obligations.TransferInDelaySlot : Prop :=
  ∀ (s : State) (rd rs rt : RegNo) (imm : BitVec 16) (target : BitVec 26), s.ds = true →
    ∀ i ∈ [.j target, .jal target, .jr rs, .jalr rd rs, .beq rs rt imm, .bne rs rt imm, .blez rs imm, .bgtz rs imm,
        .beql rs rt imm, .bnel rs rt imm, .blezl rs imm, .bgtzl rs imm, .bltz rs imm, .bgez rs imm, .bltzl rs imm,
        .bgezl rs imm, .bltzal rs imm, .bgezal rs imm, .bltzall rs imm, .bgezall rs imm],
      exec i s = .refused .branchInDelaySlot

/-! ## Coprocessor 0 -/

/-- MFC0 reads the eight registers, the two 8-bit ones zero-extended, the fields of `status` and `cause` at their places
with CU[3:1] zero; where CP0 may not be used it raises CpU. The low places of `status` and those of BD, CE and ExcCode
are PRESUMED (log 13, 14); the place of the 8-bit registers is the spec's decision D8 (log 19); an unused number gives a
free value (log 17). -/
def Obligations.Mfc0Results : Prop :=
  ∀ (s : State) (rt : RegNo) (rd : Cp0No),
    (¬Cop0Allowed s → Traps s (.mfc0 rt rd) 11#5 (some 0#2) none) ∧
      (Cop0Allowed s →
        Computes s (.mfc0 rt 8#5) rt s.badvaddr ∧ Computes s (.mfc0 rt 9#5) rt s.count ∧
          Computes s (.mfc0 rt 11#5) rt s.compare ∧ Computes s (.mfc0 rt 14#5) rt s.epc ∧
          Computes s (.mfc0 rt 20#5) rt (s.fromhost.zeroExtend 32) ∧
          Computes s (.mfc0 rt 21#5) rt (s.tohost.zeroExtend 32) ∧
          (∃ v, Computes s (.mfc0 rt 12#5) rt v ∧ v.extractLsb' 29 3 = 0#3 ∧ v.getLsbD 28 = s.status.cu0 ∧
            v.getLsbD 15 = s.status.im7 ∧ v.getLsbD 14 = s.status.im6 ∧ v.getLsbD 5 = s.status.kuO ∧
            v.getLsbD 4 = s.status.ieO ∧ v.getLsbD 3 = s.status.kuP ∧ v.getLsbD 2 = s.status.ieP ∧
            v.getLsbD 1 = s.status.kuC ∧ v.getLsbD 0 = s.status.ieC) ∧
          (∃ v, Computes s (.mfc0 rt 13#5) rt v ∧ v.getLsbD 31 = s.cause.bd ∧ v.extractLsb' 28 2 = s.cause.ce ∧
            v.getLsbD 15 = s.cause.ip7 ∧ v.getLsbD 14 = s.cause.ip6 ∧ v.extractLsb' 2 5 = s.cause.excCode) ∧
          ∃ v, Computes s (.mfc0 rt rd) rt v)

/-- MTC0 writes count, compare (clearing ip7), status (nine storage bits) and tohost (low byte); to a read-only or unused
number it changes nothing; where CP0 may not be used it raises CpU. When count and compare become equal by the write,
ip7 is not spoken of (log 20). Places in `status` are PRESUMED (log 13); that `tohost` takes the low byte and a read-only
number nothing is the spec's decision (log 19, 18). -/
def Obligations.Mtc0Results : Prop :=
  ∀ (s : State) (rt : RegNo) (rd : Cp0No),
    let v := s.reg rt
    (¬Cop0Allowed s → Traps s (.mtc0 rt rd) 11#5 (some 0#2) none) ∧
      (Cop0Allowed s → ∃ t, exec (.mtc0 rt rd) s = .next t ∧
        t.count = (if rd = 9#5 then v else s.count) ∧ t.compare = (if rd = 11#5 then v else s.compare) ∧
        t.tohost = (if rd = 21#5 then v.extractLsb' 0 8 else s.tohost) ∧
        (rd = 12#5 → t.status.cu0 = v.getLsbD 28 ∧ t.status.im7 = v.getLsbD 15 ∧ t.status.im6 = v.getLsbD 14 ∧
          t.status.kuO = v.getLsbD 5 ∧ t.status.ieO = v.getLsbD 4 ∧ t.status.kuP = v.getLsbD 3 ∧
          t.status.ieP = v.getLsbD 2 ∧ t.status.kuC = v.getLsbD 1 ∧ t.status.ieC = v.getLsbD 0) ∧
        (rd ≠ 12#5 → t.status = s.status) ∧
        (rd = 11#5 → v ≠ s.count → t.cause.ip7 = false) ∧
        (rd = 9#5 → v ≠ s.compare → t.cause.ip7 = s.cause.ip7) ∧
        (rd ≠ 9#5 → rd ≠ 11#5 → t.cause.ip7 = s.cause.ip7) ∧
        t.cause.bd = s.cause.bd ∧ t.cause.ce = s.cause.ce ∧ t.cause.ip6 = s.cause.ip6 ∧
        t.cause.excCode = s.cause.excCode ∧ t.badvaddr = s.badvaddr ∧ t.epc = s.epc ∧ t.fromhost = s.fromhost ∧
        KeepsRegs s t ∧ KeepsHiLo s t ∧ KeepsMemory s t ∧ KeepsOutside s t ∧ GoesOn s t)

/-- What MTC0 to `status` writes is what MFC0 then reads, in the nine storage bits; bits 31:29 read as 0 whatever was
written. The value written leaves CP0 usable, so that MFC0 may follow. The low six places are PRESUMED (log 13). -/
def Obligations.StatusReadsBack : Prop :=
  ∀ (s : State) (rt rd : RegNo), Cop0Allowed s →
    ((s.reg rt).getLsbD 1 = false ∨ (s.reg rt).getLsbD 28 = true) →
    ∃ t v, exec (.mtc0 rt 12#5) s = .next t ∧ Computes t (.mfc0 rd 12#5) rd v ∧
      v &&& 0xf000c03f#32 = s.reg rt &&& 0x1000c03f#32

/-! ## The machine as a whole -/

/-- The state after reset satisfies the invariant. -/
def Obligations.InvAtReset : Prop := StateInv State.reset

/-- Every step keeps the invariant: memory and marks canonical and within the decoded addresses, PA_BITS in range,
outside a delay slot the next instruction at pc + 4, and no interrupt deferred for longer than INT_LATENCY (logs 45, 46). -/
def Obligations.StepKeepsInv : Prop := ∀ s t, StateInv s → step s = .next t → StateInv t

/-- No step changes the implementation parameters. The model's own fields: each step uses up one entry of the outside's
script (log 40) and draws its free values under a fresh number (log 38). -/
def Obligations.StepKeepsParameters : Prop :=
  ∀ s t, step s = .next t → t.params = s.params ∧ t.inputs = s.inputs.tail ∧ t.draws = s.draws + 1

/-- Only JR and JALR, with a register value off a four-byte boundary, can make the program counter misaligned: from an
aligned pc and npc every step leaves pc aligned, and npc too unless it ran one of those. -/
def Obligations.PcStaysAligned : Prop :=
  ∀ s t, s.pc.toNat % 4 = 0 → s.npc.toNat % 4 = 0 → step s = .next t →
    t.pc.toNat % 4 = 0 ∧
      (t.npc.toNat % 4 = 0 ∨
        ∃ rs, (s.reg rs).toNat % 4 ≠ 0 ∧ (StepRuns s (.jr rs) ∨ ∃ rd, StepRuns s (.jalr rd rs)))

/-- Every instruction runs on all data: outside a delay slot each answers a next state; in one each does but the twenty
jumps and branches, which are refused by name (log 26). No instruction ends in a fault. -/
def Obligations.EveryInstructionRuns : Prop :=
  ∀ i s, (s.ds = false ∨ ¬IsTransfer i → ∃ t, exec i s = .next t) ∧
    (s.ds = true → IsTransfer i → exec i s = .refused .branchInDelaySlot)

/-- A step answers a next state, or refuses for one of four reasons, each only on what the spec gives no meaning: a jump
or branch in a delay slot (log 26), an illegal COP0 word where CP0 may be used (log 27), a word with a should-be-zero
field set under the policy refuse (log 11), a fetch from a word stored to since the last ICINV under refuse-stale
(log 12). It never faults. -/
def Obligations.StepStopsOnlyWhereTheSpecIsSilent : Prop :=
  ∀ s, (∃ t, step s = .next t) ∨
    (step s = .refused .branchInDelaySlot ∧ s.ds = true ∧ ∃ w i, StepFetches s w ∧ IsTransfer i ∧
      (decode w = .instr i ∨ (decode w = .shouldBeZero i ∧ s.params.sbz = .ignore))) ∨
    (step s = .refused .illegalCop0 ∧ Cop0Allowed s ∧ ∃ w, StepFetches s w ∧ IllegalCop0Cell w) ∨
    (step s = .refused .shouldBeZero ∧ s.params.sbz = .refuse ∧ ∃ w i, StepFetches s w ∧ decode w = .shouldBeZero i ∧
      (w.toNat / 2 ^ 26 = 0b010000 → Cop0Allowed s)) ∨
    (step s = .refused .staleFetch ∧ StepReachesFetch s ∧ s.params.icache = .refuseStale ∧
      (Marks.lookup s.marks (s.wordNo s.pc)).isSome = true)

/-- How the mode changes: reset and trap entry set kernel mode (trap entry keeping the former mode in the previous
pair), RFE takes the previous mode, MTC0 to `status` bit 1 of the value; nothing else changes it. That the mode is bit 1
is PRESUMED (log 13). -/
def Obligations.ModeChanges : Prop :=
  ∀ s t, step s = .next t →
    (s.input.reset.isSome = true ∧ t.status.kuC = false) ∨
      (s.input.reset = none ∧ t.status.kuC = false ∧ t.status.kuP = s.status.kuC ∧
        ∃ code, EntersTrap (s.tick s.input) t code none none) ∨
      (StepRuns s .rfe ∧ t.status.kuC = s.status.kuP) ∨
      (∃ rt, StepRuns s (.mtc0 rt 12#5) ∧ t.status.kuC = (s.reg rt).getLsbD 1) ∨
      t.status.kuC = s.status.kuC

/-- `cause.ExcCode` is written at every trap entry, with one of the ten codes, and by nothing else but reset; so are
`epc`, `badvaddr`, `cause.BD` and `cause.CE`. -/
def Obligations.ExceptionRegistersChange : Prop :=
  ∀ s t, step s = .next t →
    s.input.reset.isSome = true ∨
      (∃ code, IsExcCode code ∧ EntersTrap (s.tick s.input) t code none none) ∨
      (t.epc = s.epc ∧ t.badvaddr = s.badvaddr ∧ t.cause.bd = s.cause.bd ∧ t.cause.ce = s.cause.ce ∧
        t.cause.excCode = s.cause.excCode)

/-- `compare` changes only by MTC0 to it and by reset, and a set timer flag is cleared only by those and by an MTC0 to
`count` of the value of `compare`, which leaves the flag open (log 20). -/
def Obligations.TimerFlagCleared : Prop :=
  ∀ s t, step s = .next t → s.input.reset = none →
    (t.compare = s.compare ∨ ∃ rt, StepRuns s (.mtc0 rt 11#5) ∧ t.compare = s.reg rt) ∧
      (s.cause.ip7 = true → t.cause.ip7 = true ∨ (∃ rt, StepRuns s (.mtc0 rt 11#5)) ∨
        ∃ rt, StepRuns s (.mtc0 rt 9#5) ∧ s.reg rt = s.compare)

/-- User mode without CU[0] is confined in what it changes: an instruction either enters the handler or leaves every CP0
register and the mode as they were, changes no byte but one that an address in kuseg reaches (with fewer than 32 address
bits decoded, every byte is), and makes no word fresh. -/
def Obligations.UserModeConfined : Prop :=
  ∀ i s t, StateInv s → s.status.kuC = true → s.status.cu0 = false → exec i s = .next t →
    (∃ code, IsExcCode code ∧ EntersTrap s t code none none) ∨
      (KeepsCp0 s t ∧ KeepsOutside s t ∧
        (∀ b, t.readByte b ≠ s.readByte b → ∃ a : Word, 2 ^ 31 ≤ a.toNat ∧ s.phys a = s.phys b) ∧
        ∀ n, (Marks.lookup s.marks n).isSome = true → Marks.lookup t.marks n = Marks.lookup s.marks n)

/-- User mode without CU[0] reads no CP0 register but the mode and CU[0] themselves, and no kseg byte: an instruction
started in two states that agree on everything else goes on alike in both, and they agree on it afterwards. -/
def Obligations.UserModeSeesNoSecret : Prop :=
  ∀ i s s', StateInv s → StateInv s' → UserView s s' → s.status.kuC = true → s.status.cu0 = false →
    s'.status.kuC = true → s'.status.cu0 = false →
    (∃ t t', exec i s = .next t ∧ exec i s' = .next t' ∧ UserView t t' ∧ t'.status.kuC = t.status.kuC) ∨
      (exec i s = .refused .branchInDelaySlot ∧ exec i s' = .refused .branchInDelaySlot)
end

