-- ==== Sys2Proof/Laws/Decode.lean ====
section
/-! SUPPORT. The fields of a word put together from fields, and a word put together from its own fields; the bytes of a
word (spec/30_encoding.md R101 to R104; spec/20_memory.md R74, R75). -/

namespace Sys2Proof

/-! ### A slice of two words put together -/

theorem extractLsb'_append_low {m n : Nat} (x : BitVec m) (y : BitVec n) {start len : Nat} (h : start + len ≤ n) :
    (x ++ y).extractLsb' start len = y.extractLsb' start len := by
  ext i hi
  simp only [BitVec.getElem_extractLsb', BitVec.getLsbD_append]
  rw [if_pos (by omega)]

theorem extractLsb'_append_high {m n : Nat} (x : BitVec m) (y : BitVec n) {start len : Nat} (h : n ≤ start) :
    (x ++ y).extractLsb' start len = x.extractLsb' (start - n) len := by
  ext i hi
  simp only [BitVec.getElem_extractLsb', BitVec.getLsbD_append]
  rw [if_neg (by omega), show start + i - n = start - n + i by omega]

/-- Two neighbouring slices of a word put together. -/
theorem extractLsb'_append_extractLsb' {w : Nat} (x : BitVec w) (start m n : Nat) :
    x.extractLsb' (start + n) m ++ x.extractLsb' start n = x.extractLsb' start (m + n) := by
  ext i hi
  simp only [BitVec.getElem_append, BitVec.getElem_extractLsb']
  split
  · rfl
  · congr 1; omega

section RType
variable (op : BitVec 6) (rs rt rd shamt : BitVec 5) (funct : BitVec 6)

@[simp] theorem opField_rType : opField (rType op rs rt rd shamt funct) = op := by
  unfold opField rType
  simp (disch := omega) only [extractLsb'_append_high]
  exact BitVec.extractLsb'_eq_self

@[simp] theorem rsField_rType : rsField (rType op rs rt rd shamt funct) = rs := by
  unfold rsField rType
  simp (disch := omega) only [extractLsb'_append_high, extractLsb'_append_low]
  exact BitVec.extractLsb'_eq_self

@[simp] theorem rtField_rType : rtField (rType op rs rt rd shamt funct) = rt := by
  unfold rtField rType
  simp (disch := omega) only [extractLsb'_append_high, extractLsb'_append_low]
  exact BitVec.extractLsb'_eq_self

@[simp] theorem rdField_rType : rdField (rType op rs rt rd shamt funct) = rd := by
  unfold rdField rType
  simp (disch := omega) only [extractLsb'_append_high, extractLsb'_append_low]
  exact BitVec.extractLsb'_eq_self

@[simp] theorem shamtField_rType : shamtField (rType op rs rt rd shamt funct) = shamt := by
  unfold shamtField rType
  simp (disch := omega) only [extractLsb'_append_high, extractLsb'_append_low]
  exact BitVec.extractLsb'_eq_self

@[simp] theorem functField_rType : functField (rType op rs rt rd shamt funct) = funct := by
  unfold functField rType
  simp (disch := omega) only [extractLsb'_append_low]
  exact BitVec.extractLsb'_eq_self

end RType

section IType
variable (op : BitVec 6) (rs rt : BitVec 5) (imm : BitVec 16)

@[simp] theorem opField_iType : opField (iType op rs rt imm) = op := by
  unfold opField iType
  simp (disch := omega) only [extractLsb'_append_high]
  exact BitVec.extractLsb'_eq_self

@[simp] theorem rsField_iType : rsField (iType op rs rt imm) = rs := by
  unfold rsField iType
  simp (disch := omega) only [extractLsb'_append_high, extractLsb'_append_low]
  exact BitVec.extractLsb'_eq_self

@[simp] theorem rtField_iType : rtField (iType op rs rt imm) = rt := by
  unfold rtField iType
  simp (disch := omega) only [extractLsb'_append_high, extractLsb'_append_low]
  exact BitVec.extractLsb'_eq_self

@[simp] theorem immField_iType : immField (iType op rs rt imm) = imm := by
  unfold immField iType
  simp (disch := omega) only [extractLsb'_append_low]
  exact BitVec.extractLsb'_eq_self

end IType

section JTypeAndCode
variable (op : BitVec 6) (target : BitVec 26) (code : BitVec 20) (funct : BitVec 6)

@[simp] theorem opField_jType : opField (jType op target) = op := by
  unfold opField jType
  simp (disch := omega) only [extractLsb'_append_high]
  exact BitVec.extractLsb'_eq_self

@[simp] theorem targetField_jType : targetField (jType op target) = target := by
  unfold targetField jType
  simp (disch := omega) only [extractLsb'_append_low]
  exact BitVec.extractLsb'_eq_self

@[simp] theorem opField_codeType : opField (codeType op code funct) = op := by
  unfold opField codeType
  simp (disch := omega) only [extractLsb'_append_high]
  exact BitVec.extractLsb'_eq_self

@[simp] theorem codeField_codeType : codeField (codeType op code funct) = code := by
  unfold codeField codeType
  simp (disch := omega) only [extractLsb'_append_high, extractLsb'_append_low]
  exact BitVec.extractLsb'_eq_self

@[simp] theorem functField_codeType : functField (codeType op code funct) = funct := by
  unfold functField codeType
  simp (disch := omega) only [extractLsb'_append_low]
  exact BitVec.extractLsb'_eq_self

end JTypeAndCode

/-! ### A word from its own fields -/

theorem rType_fields (w : Word) :
    rType (opField w) (rsField w) (rtField w) (rdField w) (shamtField w) (functField w) = w := by
  have h : ∀ (a m n : Nat) (x : BitVec m) (y : BitVec n), x = w.extractLsb' (a + n) m → y = w.extractLsb' a n →
      x ++ y = w.extractLsb' a (m + n) := fun a m n x y hx hy => by
    rw [hx, hy]; exact extractLsb'_append_extractLsb' w a m n
  exact (h 0 26 6 _ _ (h 6 21 5 _ _ (h 11 16 5 _ _ (h 16 11 5 _ _ (h 21 6 5 _ _ rfl rfl) rfl) rfl) rfl) rfl).trans
    BitVec.extractLsb'_eq_self

theorem iType_fields (w : Word) : iType (opField w) (rsField w) (rtField w) (immField w) = w := by
  have h : ∀ (a m n : Nat) (x : BitVec m) (y : BitVec n), x = w.extractLsb' (a + n) m → y = w.extractLsb' a n →
      x ++ y = w.extractLsb' a (m + n) := fun a m n x y hx hy => by
    rw [hx, hy]; exact extractLsb'_append_extractLsb' w a m n
  exact (h 0 16 16 _ _ (h 16 11 5 _ _ (h 21 6 5 _ _ rfl rfl) rfl) rfl).trans BitVec.extractLsb'_eq_self

theorem jType_fields (w : Word) : jType (opField w) (targetField w) = w :=
  (extractLsb'_append_extractLsb' w 0 6 26).trans BitVec.extractLsb'_eq_self

theorem codeType_fields (w : Word) : codeType (opField w) (codeField w) (functField w) = w := by
  have h := extractLsb'_append_extractLsb' w 6 6 20
  unfold codeType opField codeField functField
  rw [h]
  exact (extractLsb'_append_extractLsb' w 0 26 6).trans BitVec.extractLsb'_eq_self

/-! ### Bytes -/

/-- The word of a word's four bytes is the word. -/
theorem wordOfBytes_bytes (w : Word) :
    wordOfBytes (w.extractLsb' 24 8) (w.extractLsb' 16 8) (w.extractLsb' 8 8) (w.extractLsb' 0 8) = w := by
  unfold wordOfBytes
  rw [extractLsb'_append_extractLsb' w 16 8 8]
  have h1 := extractLsb'_append_extractLsb' w 8 16 8
  have h2 := extractLsb'_append_extractLsb' w 0 24 8
  exact (congrArg (· ++ w.extractLsb' 0 8) h1).trans (h2.trans BitVec.extractLsb'_eq_self)

/-- Decoding the four bytes of a word decodes the word. -/
theorem decodeBytes_bytesOfWord (w : Word) : decodeBytes (bytesOfWord w) = some (decode w) :=
  congrArg (fun v => some (decode v)) (wordOfBytes_bytes w)

end Sys2Proof
end

