-- ==== Sys2Proof/Laws/Memory.lean ====
section
/-! SUPPORT. What the operations over memory and marks do: a read after a write, and that every operation keeps the
canonical form. -/

namespace Sys2Proof.Machine

/-! ### Memory: the canonical form -/

theorem Memory.wfFrom_mono {lo lo' : Nat} {m : Memory} (h : lo' ≤ lo) (hm : Memory.wfFrom lo m = true) :
    Memory.wfFrom lo' m = true := by
  cases m with
  | nil => rfl
  | cons c m =>
    simp only [Memory.wfFrom, Bool.and_eq_true, decide_eq_true_eq] at hm ⊢
    exact ⟨⟨by omega, hm.1.2⟩, hm.2⟩

theorem Memory.wfFrom_consCell {lo a : Nat} {v : Byte} {m : Memory} (ha : lo ≤ a)
    (hm : Memory.wfFrom (a + 1) m = true) : Memory.wfFrom lo (Memory.consCell a v m) = true := by
  unfold Memory.consCell
  split
  · exact Memory.wfFrom_mono (by omega) hm
  · simp_all [Memory.wfFrom]

theorem Memory.wfFrom_write {lo : Nat} {m : Memory} {a : Nat} {v : Byte} (ha : lo ≤ a)
    (hm : Memory.wfFrom lo m = true) : Memory.wfFrom lo (Memory.write m a v) = true := by
  induction m generalizing lo with
  | nil => exact Memory.wfFrom_consCell ha rfl
  | cons c m ih =>
    obtain ⟨b, x⟩ := c
    simp only [Memory.wfFrom, Bool.and_eq_true, decide_eq_true_eq] at hm
    simp only [Memory.write]
    split
    · refine Memory.wfFrom_consCell ha ?_
      simp only [Memory.wfFrom, Bool.and_eq_true, decide_eq_true_eq]
      exact ⟨⟨by omega, hm.1.2⟩, hm.2⟩
    · split
      · subst_vars; exact Memory.wfFrom_consCell ha hm.2
      · simp only [Memory.wfFrom, Bool.and_eq_true, decide_eq_true_eq]
        exact ⟨hm.1, ih (by omega) hm.2⟩

/-- A write keeps the canonical form. -/
theorem Memory.wf_write {m : Memory} (a : Nat) (v : Byte) (hm : Memory.wf m = true) :
    Memory.wf (Memory.write m a v) = true :=
  Memory.wfFrom_write (Nat.zero_le a) hm

/-- Writing bytes keeps the canonical form. -/
theorem Memory.wf_writeBytes (paBits : Nat) (bs : List Byte) {m : Memory} (a : Word) (hm : Memory.wf m = true) :
    Memory.wf (Memory.writeBytes paBits m a bs) = true := by
  induction bs generalizing m a with
  | nil => exact hm
  | cons b bs ih => exact ih (a + 1#32) (Memory.wf_write _ b hm)

/-- A loaded image is in the canonical form. -/
theorem Memory.wf_ofImage (paBits : Nat) (image : List Host.Cell) : Memory.wf (Memory.ofImage paBits image) = true := by
  unfold Memory.ofImage
  have step : ∀ (cells : List Host.Cell) (m : Memory), Memory.wf m = true →
      Memory.wf (cells.foldl (fun m c => Memory.write m (c.1 % 2 ^ paBits) c.2) m) = true := by
    intro cells
    induction cells with
    | nil => exact fun _ hm => hm
    | cons c cells ih => exact fun m hm => ih _ (Memory.wf_write _ _ hm)
  exact step image [] rfl

/-! ### Memory: reading -/

theorem Memory.read_of_wfFrom {lo a : Nat} {m : Memory} (hm : Memory.wfFrom lo m = true) (ha : a < lo) :
    Memory.read m a = unlistedByte := by
  induction m generalizing lo with
  | nil => rfl
  | cons c m ih =>
    obtain ⟨b, x⟩ := c
    simp only [Memory.wfFrom, Bool.and_eq_true, decide_eq_true_eq] at hm
    simp only [Memory.read]
    rw [if_neg (by omega)]
    exact ih hm.2 (by omega)

theorem Memory.read_consCell {a b : Nat} {v : Byte} {m : Memory} (hm : Memory.wfFrom (a + 1) m = true) :
    Memory.read (Memory.consCell a v m) b = if a = b then v else Memory.read m b := by
  unfold Memory.consCell
  split
  · split
    · subst_vars; exact Memory.read_of_wfFrom hm (by omega)
    · rfl
  · rfl

theorem Memory.read_write_of_wfFrom {lo : Nat} {m : Memory} (a b : Nat) (v : Byte) (hm : Memory.wfFrom lo m = true) :
    Memory.read (Memory.write m a v) b = if a = b then v else Memory.read m b := by
  induction m generalizing lo with
  | nil => exact Memory.read_consCell rfl
  | cons c m ih =>
    obtain ⟨k, x⟩ := c
    simp only [Memory.wfFrom, Bool.and_eq_true, decide_eq_true_eq] at hm
    simp only [Memory.write]
    split
    · refine Memory.read_consCell ?_
      simp only [Memory.wfFrom, Bool.and_eq_true, decide_eq_true_eq]
      exact ⟨⟨by omega, hm.1.2⟩, hm.2⟩
    · split
      · subst_vars
        rw [Memory.read_consCell hm.2]
        simp only [Memory.read]
        split <;> rfl
      · simp only [Memory.read]
        by_cases hk : k = b
        · rw [if_pos hk, if_pos hk, if_neg (by omega)]
        · rw [if_neg hk, if_neg hk]; exact ih hm.2

/-- A read after a write: the value at the address written, the old value elsewhere. -/
theorem Memory.read_write {m : Memory} (a b : Nat) (v : Byte) (hm : Memory.wf m = true) :
    Memory.read (Memory.write m a v) b = if a = b then v else Memory.read m b :=
  Memory.read_write_of_wfFrom a b v hm

/-- An address none of the written bytes reaches reads as before. -/
theorem Memory.read_writeBytes_other (paBits : Nat) (bs : List Byte) {m : Memory} (a : Word) (b : Nat)
    (hm : Memory.wf m = true)
    (hb : ∀ k, k < bs.length → b ≠ (a + BitVec.ofNat 32 k).toNat % 2 ^ paBits) :
    Memory.read (Memory.writeBytes paBits m a bs) b = Memory.read m b := by
  induction bs generalizing m a with
  | nil => rfl
  | cons x bs ih =>
    simp only [Memory.writeBytes]
    rw [ih _ (Memory.wf_write _ x hm), Memory.read_write _ _ _ hm, if_neg]
    · have h0 := hb 0 (by simp)
      rw [show BitVec.ofNat 32 0 = 0#32 from rfl, BitVec.add_zero] at h0
      exact fun h => h0 h.symm
    · intro k hk
      have := hb (k + 1) (by simpa using hk)
      rwa [show a + 1#32 + BitVec.ofNat 32 k = a + BitVec.ofNat 32 (k + 1) by
        rw [BitVec.add_assoc]; congr 1; apply BitVec.eq_of_toNat_eq; simp; omega]

/-- The physical byte of the `k`-th written byte reads as that byte, unless a later one reaches the same physical
byte. -/
theorem Memory.read_writeBytes_at (paBits : Nat) (bs : List Byte) {m : Memory} (a : Word) (k : Nat) (hk : k < bs.length)
    (hm : Memory.wf m = true)
    (later : ∀ j, k < j → j < bs.length →
      (a + BitVec.ofNat 32 k).toNat % 2 ^ paBits ≠ (a + BitVec.ofNat 32 j).toNat % 2 ^ paBits) :
    Memory.read (Memory.writeBytes paBits m a bs) ((a + BitVec.ofNat 32 k).toNat % 2 ^ paBits) = bs[k] := by
  have shift : ∀ (x : Word) (j : Nat), x + 1#32 + BitVec.ofNat 32 j = x + BitVec.ofNat 32 (j + 1) := by
    intro x j
    rw [BitVec.add_assoc]; congr 1; apply BitVec.eq_of_toNat_eq; simp; omega
  induction bs generalizing m a k with
  | nil => simp at hk
  | cons x bs ih =>
    simp only [Memory.writeBytes]
    cases k with
    | zero =>
      rw [Memory.read_writeBytes_other _ _ _ _ (Memory.wf_write _ x hm), Memory.read_write _ _ _ hm, if_pos]
      · rfl
      · rw [show BitVec.ofNat 32 0 = 0#32 from rfl, BitVec.add_zero]
      · intro j hj
        rw [shift]
        exact later (j + 1) (by omega) (by simpa using hj)
    | succ k =>
      rw [← shift a k]
      refine ih (a + 1#32) k (by simpa using hk) (Memory.wf_write _ x hm) fun j hkj hj => ?_
      rw [shift a k, shift a j]
      exact later (j + 1) (by omega) (by simpa using hj)

/-! ### Memory: the decoded addresses -/

theorem Memory.within_write {paBits a : Nat} {m : Memory} (v : Byte) (ha : a < 2 ^ paBits)
    (hm : Memory.within paBits m = true) : Memory.within paBits (Memory.write m a v) = true := by
  have cons : ∀ m : Memory, Memory.within paBits m = true →
      Memory.within paBits (Memory.consCell a v m) = true := by
    intro m hm
    unfold Memory.consCell
    split
    · exact hm
    · simpa [Memory.within, ha] using hm
  induction m with
  | nil => exact cons [] rfl
  | cons c m ih =>
    obtain ⟨b, x⟩ := c
    have hm' : b < 2 ^ paBits ∧ Memory.within paBits m = true := by simpa [Memory.within] using hm
    simp only [Memory.write]
    split
    · exact cons _ hm
    · split
      · exact cons _ hm'.2
      · have := ih hm'.2
        simp only [Memory.within, List.all_cons, Bool.and_eq_true, decide_eq_true_eq]
        exact ⟨hm'.1, this⟩

theorem Memory.within_writeBytes (paBits : Nat) (bs : List Byte) {m : Memory} (a : Word)
    (hm : Memory.within paBits m = true) : Memory.within paBits (Memory.writeBytes paBits m a bs) = true := by
  induction bs generalizing m a with
  | nil => exact hm
  | cons b bs ih => exact ih _ (Memory.within_write b (Nat.mod_lt _ (by positivity)) hm)

theorem Memory.within_ofImage (paBits : Nat) (image : List Host.Cell) :
    Memory.within paBits (Memory.ofImage paBits image) = true := by
  unfold Memory.ofImage
  have step : ∀ (cells : List Host.Cell) (m : Memory), Memory.within paBits m = true →
      Memory.within paBits (cells.foldl (fun m c => Memory.write m (c.1 % 2 ^ paBits) c.2) m) = true := by
    intro cells
    induction cells with
    | nil => exact fun _ hm => hm
    | cons c cells ih => exact fun m hm => ih _ (Memory.within_write _ (Nat.mod_lt _ (by positivity)) hm)
  exact step image [] rfl

/-! ### Marks -/

theorem Marks.wfFrom_add {lo n : Nat} {ms : Marks} {old : Word} (hn : lo ≤ n) (hm : Marks.wfFrom lo ms = true) :
    Marks.wfFrom lo (Marks.add ms n old) = true := by
  induction ms generalizing lo with
  | nil => simpa [Marks.add, Marks.wfFrom] using hn
  | cons c ms ih =>
    obtain ⟨k, o⟩ := c
    simp only [Marks.wfFrom, Bool.and_eq_true, decide_eq_true_eq] at hm
    simp only [Marks.add]
    split
    · simp only [Marks.wfFrom, Bool.and_eq_true, decide_eq_true_eq]
      exact ⟨hn, by omega, hm.2⟩
    · split
      · simpa [Marks.wfFrom] using hm
      · simp only [Marks.wfFrom, Bool.and_eq_true, decide_eq_true_eq]
        exact ⟨hm.1, ih (by omega) hm.2⟩

/-- Marking a word keeps the marks' canonical form. -/
theorem Marks.wf_add {ms : Marks} (n : Nat) (old : Word) (hm : Marks.wf ms = true) :
    Marks.wf (Marks.add ms n old) = true :=
  Marks.wfFrom_add (Nat.zero_le n) hm

theorem Marks.lookup_of_wfFrom {lo n : Nat} {ms : Marks} (hm : Marks.wfFrom lo ms = true) (hn : n < lo) :
    Marks.lookup ms n = none := by
  induction ms generalizing lo with
  | nil => rfl
  | cons c ms ih =>
    obtain ⟨k, o⟩ := c
    simp only [Marks.wfFrom, Bool.and_eq_true, decide_eq_true_eq] at hm
    simp only [Marks.lookup]
    rw [if_neg (by omega)]
    exact ih hm.2 (by omega)

/-- A lookup after marking: a word keeps the old word of its first mark. -/
theorem Marks.lookup_add {ms : Marks} (n j : Nat) (old : Word) (hm : Marks.wf ms = true) :
    Marks.lookup (Marks.add ms n old) j =
      if n = j then some ((Marks.lookup ms j).getD old) else Marks.lookup ms j := by
  have gen : ∀ (ms : Marks) (lo : Nat), Marks.wfFrom lo ms = true → Marks.lookup (Marks.add ms n old) j =
      if n = j then some ((Marks.lookup ms j).getD old) else Marks.lookup ms j := by
    intro ms
    induction ms with
    | nil => intro lo _; simp [Marks.add, Marks.lookup]
    | cons c ms ih =>
      intro lo hm
      obtain ⟨k, o⟩ := c
      simp only [Marks.wfFrom, Bool.and_eq_true, decide_eq_true_eq] at hm
      simp only [Marks.add]
      split
      · have hj : n = j → Marks.lookup ms j = none := fun h => Marks.lookup_of_wfFrom hm.2 (by omega)
        by_cases h : n = j
        · have : k ≠ j := by omega
          simp [Marks.lookup, h, hj h, this]
        · simp [Marks.lookup, h]
      · split
        · by_cases h : k = j <;> simp_all [Marks.lookup]
        · have := ih _ hm.2
          by_cases h : k = j
          · have hne : n ≠ j := by omega
            simp [Marks.lookup, h, hne]
          · simp [Marks.lookup, h, this]
  exact gen ms 0 hm

end Sys2Proof.Machine
end

