-- ==== Sys2Proof/Laws/State.lean ====
section
/-! SUPPORT. One lemma per field per update of the state, each true by rfl, so that no proof unfolds a record update.
A field the update does not touch comes out of it as it was. -/

namespace Sys2Proof.Machine

/-! ### State.setReg -/

@[simp] theorem State.setReg_hi (s : State) (r : RegNo) (v : Word) : (s.setReg r v).hi = s.hi := rfl
@[simp] theorem State.setReg_lo (s : State) (r : RegNo) (v : Word) : (s.setReg r v).lo = s.lo := rfl
@[simp] theorem State.setReg_pc (s : State) (r : RegNo) (v : Word) : (s.setReg r v).pc = s.pc := rfl
@[simp] theorem State.setReg_npc (s : State) (r : RegNo) (v : Word) : (s.setReg r v).npc = s.npc := rfl
@[simp] theorem State.setReg_ds (s : State) (r : RegNo) (v : Word) : (s.setReg r v).ds = s.ds := rfl
@[simp] theorem State.setReg_badvaddr (s : State) (r : RegNo) (v : Word) : (s.setReg r v).badvaddr = s.badvaddr := rfl
@[simp] theorem State.setReg_count (s : State) (r : RegNo) (v : Word) : (s.setReg r v).count = s.count := rfl
@[simp] theorem State.setReg_compare (s : State) (r : RegNo) (v : Word) : (s.setReg r v).compare = s.compare := rfl
@[simp] theorem State.setReg_status (s : State) (r : RegNo) (v : Word) : (s.setReg r v).status = s.status := rfl
@[simp] theorem State.setReg_cause (s : State) (r : RegNo) (v : Word) : (s.setReg r v).cause = s.cause := rfl
@[simp] theorem State.setReg_epc (s : State) (r : RegNo) (v : Word) : (s.setReg r v).epc = s.epc := rfl
@[simp] theorem State.setReg_fromhost (s : State) (r : RegNo) (v : Word) : (s.setReg r v).fromhost = s.fromhost := rfl
@[simp] theorem State.setReg_tohost (s : State) (r : RegNo) (v : Word) : (s.setReg r v).tohost = s.tohost := rfl
@[simp] theorem State.setReg_mem (s : State) (r : RegNo) (v : Word) : (s.setReg r v).mem = s.mem := rfl
@[simp] theorem State.setReg_marks (s : State) (r : RegNo) (v : Word) : (s.setReg r v).marks = s.marks := rfl
@[simp] theorem State.setReg_params (s : State) (r : RegNo) (v : Word) : (s.setReg r v).params = s.params := rfl
@[simp] theorem State.setReg_inputs (s : State) (r : RegNo) (v : Word) : (s.setReg r v).inputs = s.inputs := rfl
@[simp] theorem State.setReg_draws (s : State) (r : RegNo) (v : Word) : (s.setReg r v).draws = s.draws := rfl
@[simp] theorem State.setReg_waiting (s : State) (r : RegNo) (v : Word) : (s.setReg r v).waiting = s.waiting := rfl
@[simp] theorem State.setReg_phys (s : State) (r : RegNo) (v : Word) (x : Word) : (s.setReg r v).phys x = s.phys x := rfl
@[simp] theorem State.setReg_wordNo (s : State) (r : RegNo) (v : Word) (x : Word) : (s.setReg r v).wordNo x = s.wordNo x := rfl
@[simp] theorem State.setReg_readByte (s : State) (r : RegNo) (v : Word) (x : Word) :
    (s.setReg r v).readByte x = s.readByte x := rfl
@[simp] theorem State.setReg_readHalf (s : State) (r : RegNo) (v : Word) (x : Word) :
    (s.setReg r v).readHalf x = s.readHalf x := rfl
@[simp] theorem State.setReg_readWord (s : State) (r : RegNo) (v : Word) (x : Word) :
    (s.setReg r v).readWord x = s.readWord x := rfl

/-! ### State.setHi -/

@[simp] theorem State.setHi_regs (s : State) (v : Word) : (s.setHi v).regs = s.regs := rfl
@[simp] theorem State.setHi_hi (s : State) (v : Word) : (s.setHi v).hi = v := rfl
@[simp] theorem State.setHi_lo (s : State) (v : Word) : (s.setHi v).lo = s.lo := rfl
@[simp] theorem State.setHi_pc (s : State) (v : Word) : (s.setHi v).pc = s.pc := rfl
@[simp] theorem State.setHi_npc (s : State) (v : Word) : (s.setHi v).npc = s.npc := rfl
@[simp] theorem State.setHi_ds (s : State) (v : Word) : (s.setHi v).ds = s.ds := rfl
@[simp] theorem State.setHi_badvaddr (s : State) (v : Word) : (s.setHi v).badvaddr = s.badvaddr := rfl
@[simp] theorem State.setHi_count (s : State) (v : Word) : (s.setHi v).count = s.count := rfl
@[simp] theorem State.setHi_compare (s : State) (v : Word) : (s.setHi v).compare = s.compare := rfl
@[simp] theorem State.setHi_status (s : State) (v : Word) : (s.setHi v).status = s.status := rfl
@[simp] theorem State.setHi_cause (s : State) (v : Word) : (s.setHi v).cause = s.cause := rfl
@[simp] theorem State.setHi_epc (s : State) (v : Word) : (s.setHi v).epc = s.epc := rfl
@[simp] theorem State.setHi_fromhost (s : State) (v : Word) : (s.setHi v).fromhost = s.fromhost := rfl
@[simp] theorem State.setHi_tohost (s : State) (v : Word) : (s.setHi v).tohost = s.tohost := rfl
@[simp] theorem State.setHi_mem (s : State) (v : Word) : (s.setHi v).mem = s.mem := rfl
@[simp] theorem State.setHi_marks (s : State) (v : Word) : (s.setHi v).marks = s.marks := rfl
@[simp] theorem State.setHi_params (s : State) (v : Word) : (s.setHi v).params = s.params := rfl
@[simp] theorem State.setHi_inputs (s : State) (v : Word) : (s.setHi v).inputs = s.inputs := rfl
@[simp] theorem State.setHi_draws (s : State) (v : Word) : (s.setHi v).draws = s.draws := rfl
@[simp] theorem State.setHi_waiting (s : State) (v : Word) : (s.setHi v).waiting = s.waiting := rfl
@[simp] theorem State.setHi_reg (s : State) (v : Word) (q : RegNo) : (s.setHi v).reg q = s.reg q := rfl
@[simp] theorem State.setHi_phys (s : State) (v : Word) (x : Word) : (s.setHi v).phys x = s.phys x := rfl
@[simp] theorem State.setHi_wordNo (s : State) (v : Word) (x : Word) : (s.setHi v).wordNo x = s.wordNo x := rfl
@[simp] theorem State.setHi_readByte (s : State) (v : Word) (x : Word) :
    (s.setHi v).readByte x = s.readByte x := rfl
@[simp] theorem State.setHi_readHalf (s : State) (v : Word) (x : Word) :
    (s.setHi v).readHalf x = s.readHalf x := rfl
@[simp] theorem State.setHi_readWord (s : State) (v : Word) (x : Word) :
    (s.setHi v).readWord x = s.readWord x := rfl

/-! ### State.setLo -/

@[simp] theorem State.setLo_regs (s : State) (v : Word) : (s.setLo v).regs = s.regs := rfl
@[simp] theorem State.setLo_hi (s : State) (v : Word) : (s.setLo v).hi = s.hi := rfl
@[simp] theorem State.setLo_lo (s : State) (v : Word) : (s.setLo v).lo = v := rfl
@[simp] theorem State.setLo_pc (s : State) (v : Word) : (s.setLo v).pc = s.pc := rfl
@[simp] theorem State.setLo_npc (s : State) (v : Word) : (s.setLo v).npc = s.npc := rfl
@[simp] theorem State.setLo_ds (s : State) (v : Word) : (s.setLo v).ds = s.ds := rfl
@[simp] theorem State.setLo_badvaddr (s : State) (v : Word) : (s.setLo v).badvaddr = s.badvaddr := rfl
@[simp] theorem State.setLo_count (s : State) (v : Word) : (s.setLo v).count = s.count := rfl
@[simp] theorem State.setLo_compare (s : State) (v : Word) : (s.setLo v).compare = s.compare := rfl
@[simp] theorem State.setLo_status (s : State) (v : Word) : (s.setLo v).status = s.status := rfl
@[simp] theorem State.setLo_cause (s : State) (v : Word) : (s.setLo v).cause = s.cause := rfl
@[simp] theorem State.setLo_epc (s : State) (v : Word) : (s.setLo v).epc = s.epc := rfl
@[simp] theorem State.setLo_fromhost (s : State) (v : Word) : (s.setLo v).fromhost = s.fromhost := rfl
@[simp] theorem State.setLo_tohost (s : State) (v : Word) : (s.setLo v).tohost = s.tohost := rfl
@[simp] theorem State.setLo_mem (s : State) (v : Word) : (s.setLo v).mem = s.mem := rfl
@[simp] theorem State.setLo_marks (s : State) (v : Word) : (s.setLo v).marks = s.marks := rfl
@[simp] theorem State.setLo_params (s : State) (v : Word) : (s.setLo v).params = s.params := rfl
@[simp] theorem State.setLo_inputs (s : State) (v : Word) : (s.setLo v).inputs = s.inputs := rfl
@[simp] theorem State.setLo_draws (s : State) (v : Word) : (s.setLo v).draws = s.draws := rfl
@[simp] theorem State.setLo_waiting (s : State) (v : Word) : (s.setLo v).waiting = s.waiting := rfl
@[simp] theorem State.setLo_reg (s : State) (v : Word) (q : RegNo) : (s.setLo v).reg q = s.reg q := rfl
@[simp] theorem State.setLo_phys (s : State) (v : Word) (x : Word) : (s.setLo v).phys x = s.phys x := rfl
@[simp] theorem State.setLo_wordNo (s : State) (v : Word) (x : Word) : (s.setLo v).wordNo x = s.wordNo x := rfl
@[simp] theorem State.setLo_readByte (s : State) (v : Word) (x : Word) :
    (s.setLo v).readByte x = s.readByte x := rfl
@[simp] theorem State.setLo_readHalf (s : State) (v : Word) (x : Word) :
    (s.setLo v).readHalf x = s.readHalf x := rfl
@[simp] theorem State.setLo_readWord (s : State) (v : Word) (x : Word) :
    (s.setLo v).readWord x = s.readWord x := rfl

/-! ### State.storeBytes -/

@[simp] theorem State.storeBytes_regs (s : State) (a : Word) (bs : List Byte) :
    (s.storeBytes a bs).regs = s.regs := rfl
@[simp] theorem State.storeBytes_hi (s : State) (a : Word) (bs : List Byte) : (s.storeBytes a bs).hi = s.hi := rfl
@[simp] theorem State.storeBytes_lo (s : State) (a : Word) (bs : List Byte) : (s.storeBytes a bs).lo = s.lo := rfl
@[simp] theorem State.storeBytes_pc (s : State) (a : Word) (bs : List Byte) : (s.storeBytes a bs).pc = s.pc := rfl
@[simp] theorem State.storeBytes_npc (s : State) (a : Word) (bs : List Byte) : (s.storeBytes a bs).npc = s.npc := rfl
@[simp] theorem State.storeBytes_ds (s : State) (a : Word) (bs : List Byte) : (s.storeBytes a bs).ds = s.ds := rfl
@[simp] theorem State.storeBytes_badvaddr (s : State) (a : Word) (bs : List Byte) :
    (s.storeBytes a bs).badvaddr = s.badvaddr := rfl
@[simp] theorem State.storeBytes_count (s : State) (a : Word) (bs : List Byte) :
    (s.storeBytes a bs).count = s.count := rfl
@[simp] theorem State.storeBytes_compare (s : State) (a : Word) (bs : List Byte) :
    (s.storeBytes a bs).compare = s.compare := rfl
@[simp] theorem State.storeBytes_status (s : State) (a : Word) (bs : List Byte) :
    (s.storeBytes a bs).status = s.status := rfl
@[simp] theorem State.storeBytes_cause (s : State) (a : Word) (bs : List Byte) :
    (s.storeBytes a bs).cause = s.cause := rfl
@[simp] theorem State.storeBytes_epc (s : State) (a : Word) (bs : List Byte) : (s.storeBytes a bs).epc = s.epc := rfl
@[simp] theorem State.storeBytes_fromhost (s : State) (a : Word) (bs : List Byte) :
    (s.storeBytes a bs).fromhost = s.fromhost := rfl
@[simp] theorem State.storeBytes_tohost (s : State) (a : Word) (bs : List Byte) :
    (s.storeBytes a bs).tohost = s.tohost := rfl
@[simp] theorem State.storeBytes_mem (s : State) (a : Word) (bs : List Byte) :
    (s.storeBytes a bs).mem = Memory.writeBytes s.params.paBits s.mem a bs := rfl
@[simp] theorem State.storeBytes_marks (s : State) (a : Word) (bs : List Byte) :
    (s.storeBytes a bs).marks = Marks.add s.marks (s.wordNo a) (s.readWord (wordAligned a)) := rfl
@[simp] theorem State.storeBytes_params (s : State) (a : Word) (bs : List Byte) :
    (s.storeBytes a bs).params = s.params := rfl
@[simp] theorem State.storeBytes_inputs (s : State) (a : Word) (bs : List Byte) :
    (s.storeBytes a bs).inputs = s.inputs := rfl
@[simp] theorem State.storeBytes_draws (s : State) (a : Word) (bs : List Byte) :
    (s.storeBytes a bs).draws = s.draws := rfl
@[simp] theorem State.storeBytes_waiting (s : State) (a : Word) (bs : List Byte) :
    (s.storeBytes a bs).waiting = s.waiting := rfl
@[simp] theorem State.storeBytes_reg (s : State) (a : Word) (bs : List Byte) (q : RegNo) : (s.storeBytes a bs).reg q = s.reg q := rfl
@[simp] theorem State.storeBytes_phys (s : State) (a : Word) (bs : List Byte) (x : Word) : (s.storeBytes a bs).phys x = s.phys x := rfl
@[simp] theorem State.storeBytes_wordNo (s : State) (a : Word) (bs : List Byte) (x : Word) : (s.storeBytes a bs).wordNo x = s.wordNo x := rfl

/-! ### State.clearMarks -/

@[simp] theorem State.clearMarks_regs (s : State) : s.clearMarks.regs = s.regs := rfl
@[simp] theorem State.clearMarks_hi (s : State) : s.clearMarks.hi = s.hi := rfl
@[simp] theorem State.clearMarks_lo (s : State) : s.clearMarks.lo = s.lo := rfl
@[simp] theorem State.clearMarks_pc (s : State) : s.clearMarks.pc = s.pc := rfl
@[simp] theorem State.clearMarks_npc (s : State) : s.clearMarks.npc = s.npc := rfl
@[simp] theorem State.clearMarks_ds (s : State) : s.clearMarks.ds = s.ds := rfl
@[simp] theorem State.clearMarks_badvaddr (s : State) : s.clearMarks.badvaddr = s.badvaddr := rfl
@[simp] theorem State.clearMarks_count (s : State) : s.clearMarks.count = s.count := rfl
@[simp] theorem State.clearMarks_compare (s : State) : s.clearMarks.compare = s.compare := rfl
@[simp] theorem State.clearMarks_status (s : State) : s.clearMarks.status = s.status := rfl
@[simp] theorem State.clearMarks_cause (s : State) : s.clearMarks.cause = s.cause := rfl
@[simp] theorem State.clearMarks_epc (s : State) : s.clearMarks.epc = s.epc := rfl
@[simp] theorem State.clearMarks_fromhost (s : State) : s.clearMarks.fromhost = s.fromhost := rfl
@[simp] theorem State.clearMarks_tohost (s : State) : s.clearMarks.tohost = s.tohost := rfl
@[simp] theorem State.clearMarks_mem (s : State) : s.clearMarks.mem = s.mem := rfl
@[simp] theorem State.clearMarks_marks (s : State) : s.clearMarks.marks = [] := rfl
@[simp] theorem State.clearMarks_params (s : State) : s.clearMarks.params = s.params := rfl
@[simp] theorem State.clearMarks_inputs (s : State) : s.clearMarks.inputs = s.inputs := rfl
@[simp] theorem State.clearMarks_draws (s : State) : s.clearMarks.draws = s.draws := rfl
@[simp] theorem State.clearMarks_waiting (s : State) : s.clearMarks.waiting = s.waiting := rfl
@[simp] theorem State.clearMarks_reg (s : State) (q : RegNo) : s.clearMarks.reg q = s.reg q := rfl
@[simp] theorem State.clearMarks_phys (s : State) (x : Word) : s.clearMarks.phys x = s.phys x := rfl
@[simp] theorem State.clearMarks_wordNo (s : State) (x : Word) : s.clearMarks.wordNo x = s.wordNo x := rfl
@[simp] theorem State.clearMarks_readByte (s : State) (x : Word) :
    s.clearMarks.readByte x = s.readByte x := rfl
@[simp] theorem State.clearMarks_readHalf (s : State) (x : Word) :
    s.clearMarks.readHalf x = s.readHalf x := rfl
@[simp] theorem State.clearMarks_readWord (s : State) (x : Word) :
    s.clearMarks.readWord x = s.readWord x := rfl

/-! ### State.advance -/

@[simp] theorem State.advance_regs (s : State) : s.advance.regs = s.regs := rfl
@[simp] theorem State.advance_hi (s : State) : s.advance.hi = s.hi := rfl
@[simp] theorem State.advance_lo (s : State) : s.advance.lo = s.lo := rfl
@[simp] theorem State.advance_pc (s : State) : s.advance.pc = s.npc := rfl
@[simp] theorem State.advance_npc (s : State) : s.advance.npc = s.npc + 4#32 := rfl
@[simp] theorem State.advance_ds (s : State) : s.advance.ds = false := rfl
@[simp] theorem State.advance_badvaddr (s : State) : s.advance.badvaddr = s.badvaddr := rfl
@[simp] theorem State.advance_count (s : State) : s.advance.count = s.count := rfl
@[simp] theorem State.advance_compare (s : State) : s.advance.compare = s.compare := rfl
@[simp] theorem State.advance_status (s : State) : s.advance.status = s.status := rfl
@[simp] theorem State.advance_cause (s : State) : s.advance.cause = s.cause := rfl
@[simp] theorem State.advance_epc (s : State) : s.advance.epc = s.epc := rfl
@[simp] theorem State.advance_fromhost (s : State) : s.advance.fromhost = s.fromhost := rfl
@[simp] theorem State.advance_tohost (s : State) : s.advance.tohost = s.tohost := rfl
@[simp] theorem State.advance_mem (s : State) : s.advance.mem = s.mem := rfl
@[simp] theorem State.advance_marks (s : State) : s.advance.marks = s.marks := rfl
@[simp] theorem State.advance_params (s : State) : s.advance.params = s.params := rfl
@[simp] theorem State.advance_inputs (s : State) : s.advance.inputs = s.inputs := rfl
@[simp] theorem State.advance_draws (s : State) : s.advance.draws = s.draws := rfl
@[simp] theorem State.advance_waiting (s : State) : s.advance.waiting = s.waiting := rfl
@[simp] theorem State.advance_reg (s : State) (q : RegNo) : s.advance.reg q = s.reg q := rfl
@[simp] theorem State.advance_phys (s : State) (x : Word) : s.advance.phys x = s.phys x := rfl
@[simp] theorem State.advance_wordNo (s : State) (x : Word) : s.advance.wordNo x = s.wordNo x := rfl
@[simp] theorem State.advance_readByte (s : State) (x : Word) :
    s.advance.readByte x = s.readByte x := rfl
@[simp] theorem State.advance_readHalf (s : State) (x : Word) :
    s.advance.readHalf x = s.readHalf x := rfl
@[simp] theorem State.advance_readWord (s : State) (x : Word) :
    s.advance.readWord x = s.readWord x := rfl

/-! ### State.branchTo -/

@[simp] theorem State.branchTo_regs (s : State) (x : Word) : (s.branchTo x).regs = s.regs := rfl
@[simp] theorem State.branchTo_hi (s : State) (x : Word) : (s.branchTo x).hi = s.hi := rfl
@[simp] theorem State.branchTo_lo (s : State) (x : Word) : (s.branchTo x).lo = s.lo := rfl
@[simp] theorem State.branchTo_pc (s : State) (x : Word) : (s.branchTo x).pc = s.npc := rfl
@[simp] theorem State.branchTo_npc (s : State) (x : Word) : (s.branchTo x).npc = x := rfl
@[simp] theorem State.branchTo_ds (s : State) (x : Word) : (s.branchTo x).ds = true := rfl
@[simp] theorem State.branchTo_badvaddr (s : State) (x : Word) : (s.branchTo x).badvaddr = s.badvaddr := rfl
@[simp] theorem State.branchTo_count (s : State) (x : Word) : (s.branchTo x).count = s.count := rfl
@[simp] theorem State.branchTo_compare (s : State) (x : Word) : (s.branchTo x).compare = s.compare := rfl
@[simp] theorem State.branchTo_status (s : State) (x : Word) : (s.branchTo x).status = s.status := rfl
@[simp] theorem State.branchTo_cause (s : State) (x : Word) : (s.branchTo x).cause = s.cause := rfl
@[simp] theorem State.branchTo_epc (s : State) (x : Word) : (s.branchTo x).epc = s.epc := rfl
@[simp] theorem State.branchTo_fromhost (s : State) (x : Word) : (s.branchTo x).fromhost = s.fromhost := rfl
@[simp] theorem State.branchTo_tohost (s : State) (x : Word) : (s.branchTo x).tohost = s.tohost := rfl
@[simp] theorem State.branchTo_mem (s : State) (x : Word) : (s.branchTo x).mem = s.mem := rfl
@[simp] theorem State.branchTo_marks (s : State) (x : Word) : (s.branchTo x).marks = s.marks := rfl
@[simp] theorem State.branchTo_params (s : State) (x : Word) : (s.branchTo x).params = s.params := rfl
@[simp] theorem State.branchTo_inputs (s : State) (x : Word) : (s.branchTo x).inputs = s.inputs := rfl
@[simp] theorem State.branchTo_draws (s : State) (x : Word) : (s.branchTo x).draws = s.draws := rfl
@[simp] theorem State.branchTo_waiting (s : State) (x : Word) : (s.branchTo x).waiting = s.waiting := rfl
@[simp] theorem State.branchTo_reg (s : State) (x : Word) (q : RegNo) : (s.branchTo x).reg q = s.reg q := rfl
@[simp] theorem State.branchTo_phys (s : State) (x y : Word) : (s.branchTo x).phys y = s.phys y := rfl
@[simp] theorem State.branchTo_wordNo (s : State) (x y : Word) : (s.branchTo x).wordNo y = s.wordNo y := rfl
@[simp] theorem State.branchTo_readByte (s : State) (x y : Word) :
    (s.branchTo x).readByte y = s.readByte y := rfl
@[simp] theorem State.branchTo_readHalf (s : State) (x y : Word) :
    (s.branchTo x).readHalf y = s.readHalf y := rfl
@[simp] theorem State.branchTo_readWord (s : State) (x y : Word) :
    (s.branchTo x).readWord y = s.readWord y := rfl

/-! ### State.fallThrough -/

@[simp] theorem State.fallThrough_regs (s : State) : s.fallThrough.regs = s.regs := rfl
@[simp] theorem State.fallThrough_hi (s : State) : s.fallThrough.hi = s.hi := rfl
@[simp] theorem State.fallThrough_lo (s : State) : s.fallThrough.lo = s.lo := rfl
@[simp] theorem State.fallThrough_pc (s : State) : s.fallThrough.pc = s.npc := rfl
@[simp] theorem State.fallThrough_npc (s : State) : s.fallThrough.npc = s.npc + 4#32 := rfl
@[simp] theorem State.fallThrough_ds (s : State) : s.fallThrough.ds = true := rfl
@[simp] theorem State.fallThrough_badvaddr (s : State) : s.fallThrough.badvaddr = s.badvaddr := rfl
@[simp] theorem State.fallThrough_count (s : State) : s.fallThrough.count = s.count := rfl
@[simp] theorem State.fallThrough_compare (s : State) : s.fallThrough.compare = s.compare := rfl
@[simp] theorem State.fallThrough_status (s : State) : s.fallThrough.status = s.status := rfl
@[simp] theorem State.fallThrough_cause (s : State) : s.fallThrough.cause = s.cause := rfl
@[simp] theorem State.fallThrough_epc (s : State) : s.fallThrough.epc = s.epc := rfl
@[simp] theorem State.fallThrough_fromhost (s : State) : s.fallThrough.fromhost = s.fromhost := rfl
@[simp] theorem State.fallThrough_tohost (s : State) : s.fallThrough.tohost = s.tohost := rfl
@[simp] theorem State.fallThrough_mem (s : State) : s.fallThrough.mem = s.mem := rfl
@[simp] theorem State.fallThrough_marks (s : State) : s.fallThrough.marks = s.marks := rfl
@[simp] theorem State.fallThrough_params (s : State) : s.fallThrough.params = s.params := rfl
@[simp] theorem State.fallThrough_inputs (s : State) : s.fallThrough.inputs = s.inputs := rfl
@[simp] theorem State.fallThrough_draws (s : State) : s.fallThrough.draws = s.draws := rfl
@[simp] theorem State.fallThrough_waiting (s : State) : s.fallThrough.waiting = s.waiting := rfl
@[simp] theorem State.fallThrough_reg (s : State) (q : RegNo) : s.fallThrough.reg q = s.reg q := rfl
@[simp] theorem State.fallThrough_phys (s : State) (x : Word) : s.fallThrough.phys x = s.phys x := rfl
@[simp] theorem State.fallThrough_wordNo (s : State) (x : Word) : s.fallThrough.wordNo x = s.wordNo x := rfl
@[simp] theorem State.fallThrough_readByte (s : State) (x : Word) :
    s.fallThrough.readByte x = s.readByte x := rfl
@[simp] theorem State.fallThrough_readHalf (s : State) (x : Word) :
    s.fallThrough.readHalf x = s.readHalf x := rfl
@[simp] theorem State.fallThrough_readWord (s : State) (x : Word) :
    s.fallThrough.readWord x = s.readWord x := rfl

/-! ### State.annul -/

@[simp] theorem State.annul_regs (s : State) : s.annul.regs = s.regs := rfl
@[simp] theorem State.annul_hi (s : State) : s.annul.hi = s.hi := rfl
@[simp] theorem State.annul_lo (s : State) : s.annul.lo = s.lo := rfl
@[simp] theorem State.annul_pc (s : State) : s.annul.pc = s.pc + 8#32 := rfl
@[simp] theorem State.annul_npc (s : State) : s.annul.npc = s.pc + 12#32 := rfl
@[simp] theorem State.annul_ds (s : State) : s.annul.ds = false := rfl
@[simp] theorem State.annul_badvaddr (s : State) : s.annul.badvaddr = s.badvaddr := rfl
@[simp] theorem State.annul_count (s : State) : s.annul.count = s.count := rfl
@[simp] theorem State.annul_compare (s : State) : s.annul.compare = s.compare := rfl
@[simp] theorem State.annul_status (s : State) : s.annul.status = s.status := rfl
@[simp] theorem State.annul_cause (s : State) : s.annul.cause = s.cause := rfl
@[simp] theorem State.annul_epc (s : State) : s.annul.epc = s.epc := rfl
@[simp] theorem State.annul_fromhost (s : State) : s.annul.fromhost = s.fromhost := rfl
@[simp] theorem State.annul_tohost (s : State) : s.annul.tohost = s.tohost := rfl
@[simp] theorem State.annul_mem (s : State) : s.annul.mem = s.mem := rfl
@[simp] theorem State.annul_marks (s : State) : s.annul.marks = s.marks := rfl
@[simp] theorem State.annul_params (s : State) : s.annul.params = s.params := rfl
@[simp] theorem State.annul_inputs (s : State) : s.annul.inputs = s.inputs := rfl
@[simp] theorem State.annul_draws (s : State) : s.annul.draws = s.draws := rfl
@[simp] theorem State.annul_waiting (s : State) : s.annul.waiting = s.waiting := rfl
@[simp] theorem State.annul_reg (s : State) (q : RegNo) : s.annul.reg q = s.reg q := rfl
@[simp] theorem State.annul_phys (s : State) (x : Word) : s.annul.phys x = s.phys x := rfl
@[simp] theorem State.annul_wordNo (s : State) (x : Word) : s.annul.wordNo x = s.wordNo x := rfl
@[simp] theorem State.annul_readByte (s : State) (x : Word) :
    s.annul.readByte x = s.readByte x := rfl
@[simp] theorem State.annul_readHalf (s : State) (x : Word) :
    s.annul.readHalf x = s.readHalf x := rfl
@[simp] theorem State.annul_readWord (s : State) (x : Word) :
    s.annul.readWord x = s.readWord x := rfl

/-! ### State.trapEntry -/

@[simp] theorem State.trapEntry_regs (s : State) (e : Exc) : (s.trapEntry e).regs = s.regs := rfl
@[simp] theorem State.trapEntry_hi (s : State) (e : Exc) : (s.trapEntry e).hi = s.hi := rfl
@[simp] theorem State.trapEntry_lo (s : State) (e : Exc) : (s.trapEntry e).lo = s.lo := rfl
@[simp] theorem State.trapEntry_pc (s : State) (e : Exc) : (s.trapEntry e).pc = trapVector := rfl
@[simp] theorem State.trapEntry_npc (s : State) (e : Exc) : (s.trapEntry e).npc = trapVector + 4#32 := rfl
@[simp] theorem State.trapEntry_ds (s : State) (e : Exc) : (s.trapEntry e).ds = false := rfl
@[simp] theorem State.trapEntry_badvaddr (s : State) (e : Exc) :
    (s.trapEntry e).badvaddr = e.badVAddr (Config.badVAddr s.draws) := rfl
@[simp] theorem State.trapEntry_count (s : State) (e : Exc) : (s.trapEntry e).count = s.count := rfl
@[simp] theorem State.trapEntry_compare (s : State) (e : Exc) : (s.trapEntry e).compare = s.compare := rfl
@[simp] theorem State.trapEntry_status (s : State) (e : Exc) : (s.trapEntry e).status = s.status.push := rfl
@[simp] theorem State.trapEntry_cause (s : State) (e : Exc) :
    (s.trapEntry e).cause = { s.cause with bd := s.ds, excCode := e.code, ce := e.ce (Config.causeCe s.draws) } := rfl
@[simp] theorem State.trapEntry_epc (s : State) (e : Exc) : (s.trapEntry e).epc = s.restartAddress := rfl
@[simp] theorem State.trapEntry_fromhost (s : State) (e : Exc) : (s.trapEntry e).fromhost = s.fromhost := rfl
@[simp] theorem State.trapEntry_tohost (s : State) (e : Exc) : (s.trapEntry e).tohost = s.tohost := rfl
@[simp] theorem State.trapEntry_mem (s : State) (e : Exc) : (s.trapEntry e).mem = s.mem := rfl
@[simp] theorem State.trapEntry_marks (s : State) (e : Exc) : (s.trapEntry e).marks = s.marks := rfl
@[simp] theorem State.trapEntry_params (s : State) (e : Exc) : (s.trapEntry e).params = s.params := rfl
@[simp] theorem State.trapEntry_inputs (s : State) (e : Exc) : (s.trapEntry e).inputs = s.inputs := rfl
@[simp] theorem State.trapEntry_draws (s : State) (e : Exc) : (s.trapEntry e).draws = s.draws := rfl
@[simp] theorem State.trapEntry_waiting (s : State) (e : Exc) : (s.trapEntry e).waiting = s.waiting := rfl
@[simp] theorem State.trapEntry_reg (s : State) (e : Exc) (q : RegNo) : (s.trapEntry e).reg q = s.reg q := rfl
@[simp] theorem State.trapEntry_phys (s : State) (e : Exc) (x : Word) : (s.trapEntry e).phys x = s.phys x := rfl
@[simp] theorem State.trapEntry_wordNo (s : State) (e : Exc) (x : Word) : (s.trapEntry e).wordNo x = s.wordNo x := rfl
@[simp] theorem State.trapEntry_readByte (s : State) (e : Exc) (x : Word) :
    (s.trapEntry e).readByte x = s.readByte x := rfl
@[simp] theorem State.trapEntry_readHalf (s : State) (e : Exc) (x : Word) :
    (s.trapEntry e).readHalf x = s.readHalf x := rfl
@[simp] theorem State.trapEntry_readWord (s : State) (e : Exc) (x : Word) :
    (s.trapEntry e).readWord x = s.readWord x := rfl

/-! ### State.restoreStatus -/

@[simp] theorem State.restoreStatus_regs (s : State) : s.restoreStatus.regs = s.regs := rfl
@[simp] theorem State.restoreStatus_hi (s : State) : s.restoreStatus.hi = s.hi := rfl
@[simp] theorem State.restoreStatus_lo (s : State) : s.restoreStatus.lo = s.lo := rfl
@[simp] theorem State.restoreStatus_pc (s : State) : s.restoreStatus.pc = s.pc := rfl
@[simp] theorem State.restoreStatus_npc (s : State) : s.restoreStatus.npc = s.npc := rfl
@[simp] theorem State.restoreStatus_ds (s : State) : s.restoreStatus.ds = s.ds := rfl
@[simp] theorem State.restoreStatus_badvaddr (s : State) : s.restoreStatus.badvaddr = s.badvaddr := rfl
@[simp] theorem State.restoreStatus_count (s : State) : s.restoreStatus.count = s.count := rfl
@[simp] theorem State.restoreStatus_compare (s : State) : s.restoreStatus.compare = s.compare := rfl
@[simp] theorem State.restoreStatus_status (s : State) : s.restoreStatus.status = s.status.pop := rfl
@[simp] theorem State.restoreStatus_cause (s : State) : s.restoreStatus.cause = s.cause := rfl
@[simp] theorem State.restoreStatus_epc (s : State) : s.restoreStatus.epc = s.epc := rfl
@[simp] theorem State.restoreStatus_fromhost (s : State) : s.restoreStatus.fromhost = s.fromhost := rfl
@[simp] theorem State.restoreStatus_tohost (s : State) : s.restoreStatus.tohost = s.tohost := rfl
@[simp] theorem State.restoreStatus_mem (s : State) : s.restoreStatus.mem = s.mem := rfl
@[simp] theorem State.restoreStatus_marks (s : State) : s.restoreStatus.marks = s.marks := rfl
@[simp] theorem State.restoreStatus_params (s : State) : s.restoreStatus.params = s.params := rfl
@[simp] theorem State.restoreStatus_inputs (s : State) : s.restoreStatus.inputs = s.inputs := rfl
@[simp] theorem State.restoreStatus_draws (s : State) : s.restoreStatus.draws = s.draws := rfl
@[simp] theorem State.restoreStatus_waiting (s : State) : s.restoreStatus.waiting = s.waiting := rfl
@[simp] theorem State.restoreStatus_reg (s : State) (q : RegNo) : s.restoreStatus.reg q = s.reg q := rfl
@[simp] theorem State.restoreStatus_phys (s : State) (x : Word) : s.restoreStatus.phys x = s.phys x := rfl
@[simp] theorem State.restoreStatus_wordNo (s : State) (x : Word) : s.restoreStatus.wordNo x = s.wordNo x := rfl
@[simp] theorem State.restoreStatus_readByte (s : State) (x : Word) :
    s.restoreStatus.readByte x = s.readByte x := rfl
@[simp] theorem State.restoreStatus_readHalf (s : State) (x : Word) :
    s.restoreStatus.readHalf x = s.readHalf x := rfl
@[simp] theorem State.restoreStatus_readWord (s : State) (x : Word) :
    s.restoreStatus.readWord x = s.readWord x := rfl

/-! ### State.link -/

@[simp] theorem State.link_hi (s : State) (r : RegNo) : (s.link r).hi = s.hi := rfl
@[simp] theorem State.link_lo (s : State) (r : RegNo) : (s.link r).lo = s.lo := rfl
@[simp] theorem State.link_pc (s : State) (r : RegNo) : (s.link r).pc = s.pc := rfl
@[simp] theorem State.link_npc (s : State) (r : RegNo) : (s.link r).npc = s.npc := rfl
@[simp] theorem State.link_ds (s : State) (r : RegNo) : (s.link r).ds = s.ds := rfl
@[simp] theorem State.link_badvaddr (s : State) (r : RegNo) : (s.link r).badvaddr = s.badvaddr := rfl
@[simp] theorem State.link_count (s : State) (r : RegNo) : (s.link r).count = s.count := rfl
@[simp] theorem State.link_compare (s : State) (r : RegNo) : (s.link r).compare = s.compare := rfl
@[simp] theorem State.link_status (s : State) (r : RegNo) : (s.link r).status = s.status := rfl
@[simp] theorem State.link_cause (s : State) (r : RegNo) : (s.link r).cause = s.cause := rfl
@[simp] theorem State.link_epc (s : State) (r : RegNo) : (s.link r).epc = s.epc := rfl
@[simp] theorem State.link_fromhost (s : State) (r : RegNo) : (s.link r).fromhost = s.fromhost := rfl
@[simp] theorem State.link_tohost (s : State) (r : RegNo) : (s.link r).tohost = s.tohost := rfl
@[simp] theorem State.link_mem (s : State) (r : RegNo) : (s.link r).mem = s.mem := rfl
@[simp] theorem State.link_marks (s : State) (r : RegNo) : (s.link r).marks = s.marks := rfl
@[simp] theorem State.link_params (s : State) (r : RegNo) : (s.link r).params = s.params := rfl
@[simp] theorem State.link_inputs (s : State) (r : RegNo) : (s.link r).inputs = s.inputs := rfl
@[simp] theorem State.link_draws (s : State) (r : RegNo) : (s.link r).draws = s.draws := rfl
@[simp] theorem State.link_waiting (s : State) (r : RegNo) : (s.link r).waiting = s.waiting := rfl
@[simp] theorem State.link_phys (s : State) (r : RegNo) (x : Word) : (s.link r).phys x = s.phys x := rfl
@[simp] theorem State.link_wordNo (s : State) (r : RegNo) (x : Word) : (s.link r).wordNo x = s.wordNo x := rfl
@[simp] theorem State.link_readByte (s : State) (r : RegNo) (x : Word) :
    (s.link r).readByte x = s.readByte x := rfl
@[simp] theorem State.link_readHalf (s : State) (r : RegNo) (x : Word) :
    (s.link r).readHalf x = s.readHalf x := rfl
@[simp] theorem State.link_readWord (s : State) (r : RegNo) (x : Word) :
    (s.link r).readWord x = s.readWord x := rfl

/-! ### State.writeCount -/

@[simp] theorem State.writeCount_regs (s : State) (v : Word) : (s.writeCount v).regs = s.regs := rfl
@[simp] theorem State.writeCount_hi (s : State) (v : Word) : (s.writeCount v).hi = s.hi := rfl
@[simp] theorem State.writeCount_lo (s : State) (v : Word) : (s.writeCount v).lo = s.lo := rfl
@[simp] theorem State.writeCount_pc (s : State) (v : Word) : (s.writeCount v).pc = s.pc := rfl
@[simp] theorem State.writeCount_npc (s : State) (v : Word) : (s.writeCount v).npc = s.npc := rfl
@[simp] theorem State.writeCount_ds (s : State) (v : Word) : (s.writeCount v).ds = s.ds := rfl
@[simp] theorem State.writeCount_badvaddr (s : State) (v : Word) : (s.writeCount v).badvaddr = s.badvaddr := rfl
@[simp] theorem State.writeCount_count (s : State) (v : Word) : (s.writeCount v).count = v := rfl
@[simp] theorem State.writeCount_compare (s : State) (v : Word) : (s.writeCount v).compare = s.compare := rfl
@[simp] theorem State.writeCount_status (s : State) (v : Word) : (s.writeCount v).status = s.status := rfl
@[simp] theorem State.writeCount_cause (s : State) (v : Word) :
    (s.writeCount v).cause = { s.cause with ip7 := if v = s.compare then Config.timerFlag s.draws else s.cause.ip7 } := rfl
@[simp] theorem State.writeCount_epc (s : State) (v : Word) : (s.writeCount v).epc = s.epc := rfl
@[simp] theorem State.writeCount_fromhost (s : State) (v : Word) : (s.writeCount v).fromhost = s.fromhost := rfl
@[simp] theorem State.writeCount_tohost (s : State) (v : Word) : (s.writeCount v).tohost = s.tohost := rfl
@[simp] theorem State.writeCount_mem (s : State) (v : Word) : (s.writeCount v).mem = s.mem := rfl
@[simp] theorem State.writeCount_marks (s : State) (v : Word) : (s.writeCount v).marks = s.marks := rfl
@[simp] theorem State.writeCount_params (s : State) (v : Word) : (s.writeCount v).params = s.params := rfl
@[simp] theorem State.writeCount_inputs (s : State) (v : Word) : (s.writeCount v).inputs = s.inputs := rfl
@[simp] theorem State.writeCount_draws (s : State) (v : Word) : (s.writeCount v).draws = s.draws := rfl
@[simp] theorem State.writeCount_waiting (s : State) (v : Word) : (s.writeCount v).waiting = s.waiting := rfl
@[simp] theorem State.writeCount_reg (s : State) (v : Word) (q : RegNo) : (s.writeCount v).reg q = s.reg q := rfl
@[simp] theorem State.writeCount_phys (s : State) (v : Word) (x : Word) : (s.writeCount v).phys x = s.phys x := rfl
@[simp] theorem State.writeCount_wordNo (s : State) (v : Word) (x : Word) : (s.writeCount v).wordNo x = s.wordNo x := rfl
@[simp] theorem State.writeCount_readByte (s : State) (v : Word) (x : Word) :
    (s.writeCount v).readByte x = s.readByte x := rfl
@[simp] theorem State.writeCount_readHalf (s : State) (v : Word) (x : Word) :
    (s.writeCount v).readHalf x = s.readHalf x := rfl
@[simp] theorem State.writeCount_readWord (s : State) (v : Word) (x : Word) :
    (s.writeCount v).readWord x = s.readWord x := rfl

/-! ### State.writeCompare -/

@[simp] theorem State.writeCompare_regs (s : State) (v : Word) : (s.writeCompare v).regs = s.regs := rfl
@[simp] theorem State.writeCompare_hi (s : State) (v : Word) : (s.writeCompare v).hi = s.hi := rfl
@[simp] theorem State.writeCompare_lo (s : State) (v : Word) : (s.writeCompare v).lo = s.lo := rfl
@[simp] theorem State.writeCompare_pc (s : State) (v : Word) : (s.writeCompare v).pc = s.pc := rfl
@[simp] theorem State.writeCompare_npc (s : State) (v : Word) : (s.writeCompare v).npc = s.npc := rfl
@[simp] theorem State.writeCompare_ds (s : State) (v : Word) : (s.writeCompare v).ds = s.ds := rfl
@[simp] theorem State.writeCompare_badvaddr (s : State) (v : Word) : (s.writeCompare v).badvaddr = s.badvaddr := rfl
@[simp] theorem State.writeCompare_count (s : State) (v : Word) : (s.writeCompare v).count = s.count := rfl
@[simp] theorem State.writeCompare_compare (s : State) (v : Word) : (s.writeCompare v).compare = v := rfl
@[simp] theorem State.writeCompare_status (s : State) (v : Word) : (s.writeCompare v).status = s.status := rfl
@[simp] theorem State.writeCompare_cause (s : State) (v : Word) :
    (s.writeCompare v).cause = { s.cause with ip7 := if v = s.count then Config.timerFlag s.draws else false } := rfl
@[simp] theorem State.writeCompare_epc (s : State) (v : Word) : (s.writeCompare v).epc = s.epc := rfl
@[simp] theorem State.writeCompare_fromhost (s : State) (v : Word) : (s.writeCompare v).fromhost = s.fromhost := rfl
@[simp] theorem State.writeCompare_tohost (s : State) (v : Word) : (s.writeCompare v).tohost = s.tohost := rfl
@[simp] theorem State.writeCompare_mem (s : State) (v : Word) : (s.writeCompare v).mem = s.mem := rfl
@[simp] theorem State.writeCompare_marks (s : State) (v : Word) : (s.writeCompare v).marks = s.marks := rfl
@[simp] theorem State.writeCompare_params (s : State) (v : Word) : (s.writeCompare v).params = s.params := rfl
@[simp] theorem State.writeCompare_inputs (s : State) (v : Word) : (s.writeCompare v).inputs = s.inputs := rfl
@[simp] theorem State.writeCompare_draws (s : State) (v : Word) : (s.writeCompare v).draws = s.draws := rfl
@[simp] theorem State.writeCompare_waiting (s : State) (v : Word) : (s.writeCompare v).waiting = s.waiting := rfl
@[simp] theorem State.writeCompare_reg (s : State) (v : Word) (q : RegNo) : (s.writeCompare v).reg q = s.reg q := rfl
@[simp] theorem State.writeCompare_phys (s : State) (v : Word) (x : Word) : (s.writeCompare v).phys x = s.phys x := rfl
@[simp] theorem State.writeCompare_wordNo (s : State) (v : Word) (x : Word) : (s.writeCompare v).wordNo x = s.wordNo x := rfl
@[simp] theorem State.writeCompare_readByte (s : State) (v : Word) (x : Word) :
    (s.writeCompare v).readByte x = s.readByte x := rfl
@[simp] theorem State.writeCompare_readHalf (s : State) (v : Word) (x : Word) :
    (s.writeCompare v).readHalf x = s.readHalf x := rfl
@[simp] theorem State.writeCompare_readWord (s : State) (v : Word) (x : Word) :
    (s.writeCompare v).readWord x = s.readWord x := rfl

/-! ### State.tick -/

@[simp] theorem State.tick_regs (s : State) (i : StepInput) : (s.tick i).regs = s.regs := rfl
@[simp] theorem State.tick_hi (s : State) (i : StepInput) : (s.tick i).hi = s.hi := rfl
@[simp] theorem State.tick_lo (s : State) (i : StepInput) : (s.tick i).lo = s.lo := rfl
@[simp] theorem State.tick_pc (s : State) (i : StepInput) : (s.tick i).pc = s.pc := rfl
@[simp] theorem State.tick_npc (s : State) (i : StepInput) : (s.tick i).npc = s.npc := rfl
@[simp] theorem State.tick_ds (s : State) (i : StepInput) : (s.tick i).ds = s.ds := rfl
@[simp] theorem State.tick_badvaddr (s : State) (i : StepInput) : (s.tick i).badvaddr = s.badvaddr := rfl
@[simp] theorem State.tick_count (s : State) (i : StepInput) :
    (s.tick i).count = s.count + BitVec.ofNat 32 i.cycles := rfl
@[simp] theorem State.tick_compare (s : State) (i : StepInput) : (s.tick i).compare = s.compare := rfl
@[simp] theorem State.tick_status (s : State) (i : StepInput) : (s.tick i).status = s.status := rfl
@[simp] theorem State.tick_cause (s : State) (i : StepInput) :
    (s.tick i).cause = { s.cause with ip7 := s.cause.ip7 || countReaches s.count s.compare i.cycles, ip6 := ip6After i.acts s.cause.ip6 } := rfl
@[simp] theorem State.tick_epc (s : State) (i : StepInput) : (s.tick i).epc = s.epc := rfl
@[simp] theorem State.tick_fromhost (s : State) (i : StepInput) :
    (s.tick i).fromhost = fromhostAfter i.acts s.fromhost := rfl
@[simp] theorem State.tick_tohost (s : State) (i : StepInput) : (s.tick i).tohost = s.tohost := rfl
@[simp] theorem State.tick_mem (s : State) (i : StepInput) : (s.tick i).mem = s.mem := rfl
@[simp] theorem State.tick_marks (s : State) (i : StepInput) : (s.tick i).marks = s.marks := rfl
@[simp] theorem State.tick_params (s : State) (i : StepInput) : (s.tick i).params = s.params := rfl
@[simp] theorem State.tick_inputs (s : State) (i : StepInput) : (s.tick i).inputs = s.inputs.tail := rfl
@[simp] theorem State.tick_draws (s : State) (i : StepInput) : (s.tick i).draws = s.draws + 1 := rfl
@[simp] theorem State.tick_waiting (s : State) (i : StepInput) :
    (s.tick i).waiting = (s.tick i).pendingInterrupt.map fun e => ⟨e, s.deferralLeft e i.deferral⟩ := rfl
@[simp] theorem State.tick_reg (s : State) (i : StepInput) (q : RegNo) : (s.tick i).reg q = s.reg q := rfl
@[simp] theorem State.tick_phys (s : State) (i : StepInput) (x : Word) : (s.tick i).phys x = s.phys x := rfl
@[simp] theorem State.tick_wordNo (s : State) (i : StepInput) (x : Word) : (s.tick i).wordNo x = s.wordNo x := rfl
@[simp] theorem State.tick_readByte (s : State) (i : StepInput) (x : Word) :
    (s.tick i).readByte x = s.readByte x := rfl
@[simp] theorem State.tick_readHalf (s : State) (i : StepInput) (x : Word) :
    (s.tick i).readHalf x = s.readHalf x := rfl
@[simp] theorem State.tick_readWord (s : State) (i : StepInput) (x : Word) :
    (s.tick i).readWord x = s.readWord x := rfl

end Sys2Proof.Machine
end

