-- ==== Sys2Proof/Laws/Ops.lean ====
section
/-! SUPPORT. What each shared operation of Machine/Ops.lean can do, said once: registers, bytes of memory, the shapes of
meanings, and every next state exec can answer with (Effect). -/

namespace Sys2Proof.Machine

/-! ### General registers -/

@[simp] theorem State.reg_zero (s : State) : s.reg 0#5 = 0#32 := rfl

/-- A read after a write: `r0` stays 0, the register written has the value, the others stay. -/
theorem State.reg_setReg (s : State) (d : RegNo) (v : Word) (r : RegNo) :
    (s.setReg d v).reg r = if r = 0#5 then 0#32 else if r = d then v else s.reg r := by
  unfold State.reg State.setReg
  by_cases hr : r = 0#5
  · simp [hr]
  · by_cases hd : d = 0#5
    · subst hd; simp [hr]
    · simp only [hr, hd, if_false]
      have hd' : d.toNat ≠ 0 := fun h => hd (BitVec.eq_of_toNat_eq h)
      have hr' : r.toNat ≠ 0 := fun h => hr (BitVec.eq_of_toNat_eq h)
      by_cases h : r = d
      · subst h; simp
      · have h' : d.toNat ≠ r.toNat := fun e => h (BitVec.eq_of_toNat_eq e.symm)
        rw [if_neg h]
        exact Vector.getElem_set_ne _ _ (by omega)

theorem State.reg_setReg_self (s : State) (d : RegNo) (v : Word) :
    (s.setReg d v).reg d = if d = 0#5 then 0#32 else v := by
  rw [State.reg_setReg]; simp

theorem State.reg_setReg_other (s : State) {d r : RegNo} (v : Word) (h : r ≠ d) : (s.setReg d v).reg r = s.reg r := by
  rw [State.reg_setReg, if_neg h]
  split
  · subst_vars; rfl
  · rfl

/-! ### Memory -/

/-- A byte none of the stored bytes reaches reads as before. -/
theorem State.readByte_storeBytes_other (s : State) (a b : Word) (bytes : List Byte) (hm : Memory.wf s.mem = true)
    (h : ∀ k, k < bytes.length → s.phys b ≠ s.phys (a + BitVec.ofNat 32 k)) :
    (s.storeBytes a bytes).readByte b = s.readByte b :=
  Memory.read_writeBytes_other _ _ _ _ hm h

/-- The `k`-th stored byte reads back, unless a later one reaches its physical byte. -/
theorem State.readByte_storeBytes_at (s : State) (a : Word) (bytes : List Byte) (k : Nat) (hk : k < bytes.length)
    (hm : Memory.wf s.mem = true)
    (later : ∀ j, k < j → j < bytes.length → s.phys (a + BitVec.ofNat 32 k) ≠ s.phys (a + BitVec.ofNat 32 j)) :
    (s.storeBytes a bytes).readByte (a + BitVec.ofNat 32 k) = bytes[k] :=
  Memory.read_writeBytes_at _ _ _ k hk hm later

theorem State.wf_storeBytes (s : State) (a : Word) (bytes : List Byte) (hm : Memory.wf s.mem = true) :
    Memory.wf (s.storeBytes a bytes).mem = true :=
  Memory.wf_writeBytes _ _ _ hm

theorem State.within_storeBytes (s : State) (a : Word) (bytes : List Byte)
    (hm : Memory.within s.params.paBits s.mem = true) :
    Memory.within (s.storeBytes a bytes).params.paBits (s.storeBytes a bytes).mem = true :=
  Memory.within_writeBytes _ _ _ hm

theorem State.marks_wf_storeBytes (s : State) (a : Word) (bytes : List Byte) (hm : Marks.wf s.marks = true) :
    Marks.wf (s.storeBytes a bytes).marks = true :=
  Marks.wf_add _ _ hm

/-- Memory after reset is in the canonical form, whatever image is loaded. -/
theorem State.wf_ofReset (p : Params) (r : ResetState) : Memory.wf (State.ofReset p r).mem = true :=
  Memory.wf_ofImage _ _

theorem State.wf_reset : Memory.wf State.reset.mem = true := State.wf_ofReset _ _

/-- The canonical form is kept by every operation over the state that touches memory. -/
theorem State.wf_placeAtPc (s : State) (w : Word) (hm : Memory.wf s.mem = true) :
    Memory.wf (s.placeAtPc w).mem = true :=
  Memory.wf_writeBytes _ _ _ hm

/-- The data check, in the spec's words. -/
theorem State.dataFaults_eq (s : State) (n : Nat) (a : Word) :
    s.dataFaults n a = true ↔
      (n = 4 ∧ a.extractLsb' 0 2 ≠ 0#2) ∨ (n = 2 ∧ a.getLsbD 0 = true) ∨
        (s.status.kuC = true ∧ a.getLsbD 31 = false) := by
  simp [State.dataFaults, State.kernelOnly, or_assoc]

/-! ### The shapes of meanings -/

theorem State.finishUnless_cases {s t : State} {o : Bool} {r : RegNo} {v : Word}
    (h : s.finishUnless o r v = .next t) :
    (o = true ∧ t = s.trapEntry .ov) ∨ (o = false ∧ t = (s.setReg r v).advance) := by
  unfold State.finishUnless at h
  split at h
  · exact .inl ⟨‹_›, by simpa [State.raise] using h.symm⟩
  · exact .inr ⟨Bool.eq_false_iff.mpr ‹_›, by simpa [State.finish] using h.symm⟩

theorem State.load_cases {s t : State} {n : Nat} {value : State → Word → Word} {rt rs : RegNo} {imm : BitVec 16}
    (h : s.load n value rt rs imm = .next t) :
    (s.dataFaults n (effectiveAddress (s.reg rs) imm) = true ∧
        t = s.trapEntry (.adEL (effectiveAddress (s.reg rs) imm))) ∨
      (s.dataFaults n (effectiveAddress (s.reg rs) imm) = false ∧
        t = (s.setReg rt (value s (effectiveAddress (s.reg rs) imm))).advance) := by
  unfold State.load at h
  simp only at h
  split at h
  · exact .inl ⟨‹_›, by simpa [State.raise] using h.symm⟩
  · exact .inr ⟨Bool.eq_false_iff.mpr ‹_›, by simpa [State.finish] using h.symm⟩

theorem State.store_cases {s t : State} {n : Nat} {write : State → Word → Word → State} {rt rs : RegNo}
    {imm : BitVec 16} (h : s.store n write rt rs imm = .next t) :
    (s.dataFaults n (effectiveAddress (s.reg rs) imm) = true ∧
        t = s.trapEntry (.adES (effectiveAddress (s.reg rs) imm))) ∨
      (s.dataFaults n (effectiveAddress (s.reg rs) imm) = false ∧
        t = (write s (effectiveAddress (s.reg rs) imm) (s.reg rt)).advance) := by
  unfold State.store at h
  simp only at h
  split at h
  · exact .inl ⟨‹_›, by simpa [State.raise] using h.symm⟩
  · exact .inr ⟨Bool.eq_false_iff.mpr ‹_›, by simpa using h.symm⟩

theorem State.transfer_cases {s after t : State} (h : s.transfer after = .next t) : s.ds = false ∧ t = after := by
  unfold State.transfer at h
  split at h
  · cases h
  · exact ⟨Bool.eq_false_iff.mpr ‹_›, by simpa using h.symm⟩

theorem State.withCop0_cases {s t : State} {k : Result} (h : s.withCop0 k = .next t) :
    (s.cop0Usable = true ∧ k = .next t) ∨ (s.cop0Usable = false ∧ t = s.trapEntry (.cpU 0#2)) := by
  unfold State.withCop0 at h
  split at h
  · exact .inl ⟨‹_›, h⟩
  · exact .inr ⟨Bool.eq_false_iff.mpr ‹_›, by simpa [State.raise] using h.symm⟩

/-- Where control goes after a jump or branch, the link register written or not. -/
inductive Departure (u : State) : State → Prop where
  | taken (target : Word) : Departure u (u.branchTo target)
  | notTaken : Departure u u.fallThrough
  | annulled : Departure u u.annul

theorem State.branchIf_cases (u : State) (c : Bool) (imm : BitVec 16) : Departure u (u.branchIf c imm) := by
  cases c
  · exact .notTaken
  · exact .taken _

theorem State.branchLikelyIf_cases (u : State) (c : Bool) (imm : BitVec 16) : Departure u (u.branchLikelyIf c imm) := by
  cases c
  · exact .annulled
  · exact .taken _

/-- Every next state an instruction can answer with. -/
inductive Effect (s : State) : State → Prop where
  | trap (e : Exc) : Effect s (s.trapEntry e)
  | register (r : RegNo) (v : Word) : Effect s (s.setReg r v).advance
  | hiLo (hi lo : Word) : Effect s ((s.setHi hi).setLo lo).advance
  | store (n : Nat) (a : Word) (bytes : List Byte) (allowed : s.dataFaults n a = false) (len : bytes.length = n)
      (size : n = 1 ∨ n = 2 ∨ n = 4) : Effect s (s.storeBytes a bytes).advance
  | jump {t : State} (outside : s.ds = false) (departs : Departure s t) : Effect s t
  | jumpAndLink {t : State} (r : RegNo) (outside : s.ds = false) (departs : Departure (s.link r) t) : Effect s t
  | writeCp0 (n : Cp0No) (v : Word) (usable : s.cop0Usable = true) : Effect s (s.writeCp0 n v).advance
  | restoreStatus (usable : s.cop0Usable = true) : Effect s s.restoreStatus.advance
  | clearMarks (usable : s.cop0Usable = true) : Effect s s.clearMarks.advance

theorem Effect.of_finish {s t : State} {r : RegNo} {v : Word} (h : s.finish r v = .next t) : Effect s t := by
  rw [State.finish, Host.Outcome.next.injEq] at h; exact h ▸ .register r v

theorem Effect.of_finishUnless {s t : State} {o : Bool} {r : RegNo} {v : Word} (h : s.finishUnless o r v = .next t) :
    Effect s t := by
  obtain ⟨-, rfl⟩ | ⟨-, rfl⟩ := State.finishUnless_cases h
  · exact .trap _
  · exact .register _ _

theorem Effect.of_load {s t : State} {n : Nat} {value : State → Word → Word} {rt rs : RegNo} {imm : BitVec 16}
    (h : s.load n value rt rs imm = .next t) : Effect s t := by
  obtain ⟨-, rfl⟩ | ⟨-, rfl⟩ := State.load_cases h
  · exact .trap _
  · exact .register _ _

theorem Effect.of_store {s t : State} {n : Nat} {bytes : Word → List Byte} {rt rs : RegNo} {imm : BitVec 16}
    (len : ∀ v, (bytes v).length = n) (size : n = 1 ∨ n = 2 ∨ n = 4)
    (h : s.store n (fun s ea v => s.storeBytes ea (bytes v)) rt rs imm = .next t) : Effect s t := by
  obtain ⟨-, rfl⟩ | ⟨ok, rfl⟩ := State.store_cases h
  · exact .trap _
  · exact .store n _ _ ok (len _) size

theorem Effect.of_jump {s u t : State} (departs : Departure s u) (h : s.transfer u = .next t) : Effect s t := by
  obtain ⟨hd, rfl⟩ := State.transfer_cases h; exact .jump hd departs

theorem Effect.of_jumpAndLink {s u t : State} (r : RegNo) (departs : Departure (s.link r) u)
    (h : s.transfer u = .next t) : Effect s t := by
  obtain ⟨hd, rfl⟩ := State.transfer_cases h; exact .jumpAndLink r hd departs

theorem Effect.of_raise {s t : State} {e : Exc} (h : s.raise e = .next t) : Effect s t := by
  rw [State.raise, Host.Outcome.next.injEq] at h; exact h ▸ .trap e

theorem Effect.of_withCop0 {s u t : State} (e : s.cop0Usable = true → Effect s u)
    (h : s.withCop0 (.next u) = .next t) : Effect s t := by
  obtain ⟨hu, h⟩ | ⟨-, rfl⟩ := State.withCop0_cases h
  · rw [Host.Outcome.next.injEq] at h; exact h ▸ e hu
  · exact .trap _

theorem Effect.of_finishHiLo {s t : State} {hi lo : Word} (h : s.finishHiLo hi lo = .next t) : Effect s t := by
  rw [State.finishHiLo, Host.Outcome.next.injEq] at h; exact h ▸ .hiLo hi lo

end Sys2Proof.Machine
end

