-- ==== Sys2Proof/Laws/Exec.lean ====
section
/-! SUPPORT. What exec and the instruction cycle can answer, said once: every next state is an Effect of the state exec
was given, and a step is a tick, a reset, an interrupt's entry, a trap's entry or an Effect. -/

namespace Sys2Proof.Machine

theorem Effect.of_next {s u t : State} (e : Effect s u) (h : (Host.Outcome.next u : Result) = .next t) :
    Effect s t := by
  rw [Host.Outcome.next.injEq] at h; exact h ▸ e

theorem Effect.of_ite {s t : State} {c : Prop} [Decidable c] {a b : Result} (ha : a = .next t → Effect s t)
    (hb : b = .next t → Effect s t) (h : (if c then a else b) = .next t) : Effect s t := by
  split at h
  · exact ha h
  · exact hb h

/-- Every next state of an instruction is an effect of it on the state it ran in. -/
theorem exec_effect {i : Instr} {s t : State} (h : exec i s = .next t) : Effect s t := by
  cases i with
  | lb _ _ _ => rw [exec, execLb] at h; exact .of_load h
  | lh _ _ _ => rw [exec, execLh] at h; exact .of_load h
  | lw _ _ _ => exact .of_load h
  | lbu _ _ _ => rw [exec, execLbu] at h; exact .of_load h
  | lhu _ _ _ => rw [exec, execLhu] at h; exact .of_load h
  | sb _ _ _ => exact .of_store (n := 1) (bytes := fun v => [lowByte v]) (fun _ => rfl) (by simp) h
  | sh _ _ _ => exact .of_store (n := 2) (bytes := fun v => [(lowHalf v).extractLsb' 8 8, (lowHalf v).extractLsb' 0 8]) (fun _ => rfl) (by simp) h
  | sw _ _ _ => exact .of_store (n := 4) (bytes := bytesOfWord) (fun _ => rfl) (by simp) h
  | addi _ _ _ => exact .of_finishUnless h
  | addiu _ _ _ => exact .of_finish h
  | slti _ _ _ => exact .of_finish h
  | sltiu _ _ _ => exact .of_finish h
  | andi _ _ _ => exact .of_finish h
  | ori _ _ _ => exact .of_finish h
  | xori _ _ _ => exact .of_finish h
  | lui _ _ => exact .of_finish h
  | sll _ _ _ => exact .of_finish h
  | srl _ _ _ => exact .of_finish h
  | sra _ _ _ => exact .of_finish h
  | sllv _ _ _ => exact .of_finish h
  | srlv _ _ _ => exact .of_finish h
  | srav _ _ _ => exact .of_finish h
  | add _ _ _ => exact .of_finishUnless h
  | addu _ _ _ => exact .of_finish h
  | sub _ _ _ => exact .of_finishUnless h
  | subu _ _ _ => exact .of_finish h
  | and _ _ _ => exact .of_finish h
  | or _ _ _ => exact .of_finish h
  | xor _ _ _ => exact .of_finish h
  | nor _ _ _ => exact .of_finish h
  | slt _ _ _ => exact .of_finish h
  | sltu _ _ _ => exact .of_finish h
  | mfhi _ => exact .of_finish h
  | mthi rs => exact .of_next (.hiLo (s.reg rs) s.lo) h
  | mflo _ => exact .of_finish h
  | mtlo rs => exact .of_next (.hiLo s.hi (s.reg rs)) h
  | mult _ _ => exact .of_finishHiLo h
  | multu _ _ => exact .of_finishHiLo h
  | div _ _ => exact .of_ite (fun h => .of_finishHiLo h) (fun h => .of_finishHiLo h) h
  | divu _ _ => exact .of_ite (fun h => .of_finishHiLo h) (fun h => .of_finishHiLo h) h
  | j _ => exact .of_jump (.taken _) h
  | jal _ => exact .of_jumpAndLink _ (.taken _) h
  | jr _ => exact .of_jump (.taken _) h
  | jalr _ _ => exact .of_jumpAndLink _ (.taken _) h
  | beq _ _ _ => exact .of_jump (State.branchIf_cases _ _ _) h
  | bne _ _ _ => exact .of_jump (State.branchIf_cases _ _ _) h
  | blez _ _ => exact .of_jump (State.branchIf_cases _ _ _) h
  | bgtz _ _ => exact .of_jump (State.branchIf_cases _ _ _) h
  | beql _ _ _ => exact .of_jump (State.branchLikelyIf_cases _ _ _) h
  | bnel _ _ _ => exact .of_jump (State.branchLikelyIf_cases _ _ _) h
  | blezl _ _ => exact .of_jump (State.branchLikelyIf_cases _ _ _) h
  | bgtzl _ _ => exact .of_jump (State.branchLikelyIf_cases _ _ _) h
  | bltz _ _ => exact .of_jump (State.branchIf_cases _ _ _) h
  | bgez _ _ => exact .of_jump (State.branchIf_cases _ _ _) h
  | bltzl _ _ => exact .of_jump (State.branchLikelyIf_cases _ _ _) h
  | bgezl _ _ => exact .of_jump (State.branchLikelyIf_cases _ _ _) h
  | bltzal _ _ => exact .of_jumpAndLink _ (State.branchIf_cases _ _ _) h
  | bgezal _ _ => exact .of_jumpAndLink _ (State.branchIf_cases _ _ _) h
  | bltzall _ _ => exact .of_jumpAndLink _ (State.branchLikelyIf_cases _ _ _) h
  | bgezall _ _ => exact .of_jumpAndLink _ (State.branchLikelyIf_cases _ _ _) h
  | mfc0 _ _ => exact .of_withCop0 (fun _ => .register _ _) h
  | mtc0 _ _ => exact .of_withCop0 (.writeCp0 _ _) h
  | rfe => exact .of_withCop0 .restoreStatus h
  | icinv => exact .of_withCop0 .clearMarks h
  | syscall _ => exact .of_raise h
  | breakpoint _ => exact .of_raise h
  | sync _ => exact .of_raise h
  | cop1Unusable010001 _ => exact .of_raise h
  | cop1Unusable110001 _ => exact .of_raise h
  | cop1Unusable110101 _ => exact .of_raise h
  | cop1Unusable111001 _ => exact .of_raise h
  | cop1Unusable111101 _ => exact .of_raise h
  | cop2Unusable010010 _ => exact .of_raise h
  | cop2Unusable110010 _ => exact .of_raise h
  | cop2Unusable110110 _ => exact .of_raise h
  | cop2Unusable111010 _ => exact .of_raise h
  | cop2Unusable111110 _ => exact .of_raise h
  | cop3Unusable010011 _ => exact .of_raise h
  | cop3Unusable110011 _ => exact .of_raise h
  | cop3Unusable110111 _ => exact .of_raise h
  | cop3Unusable111011 _ => exact .of_raise h
  | cop3Unusable111111 _ => exact .of_raise h

/-! ### The interrupts -/

/-- An interrupt is taken exactly where it waits and may be deferred no more. -/
theorem State.dueInterrupt_eq_some {s : State} {e : Exc} : s.dueInterrupt = some e ↔ s.waiting = some ⟨e, 0⟩ := by
  unfold State.dueInterrupt
  split
  · simp [*]
  · simp_all

/-- A drawn deferral keeps to the bound INT_LATENCY, and is the draw itself or the bound. -/
theorem boundedDeferral_spec (bound : Option Nat) (drawn : Nat) :
    boundedDeferral bound drawn ≤ drawn ∧ (∀ n, bound = some n → boundedDeferral bound drawn ≤ n) ∧
      (boundedDeferral bound drawn = drawn ∨ bound = some (boundedDeferral bound drawn)) := by
  cases bound <;> simp [boundedDeferral]
  omega

/-! ### The cycle -/

/-- What running a fetched word can answer. -/
theorem runWord_effect {s t : State} {w : Word} (h : s.runWord w = .next t) : Effect s t := by
  unfold State.runWord at h
  split at h
  · exact exec_effect h
  · unfold State.runShouldBeZero at h
    split at h
    · exact .of_raise h
    · split at h
      · cases h
      · exact exec_effect h
      · exact .of_raise h
  · exact .of_raise h
  · obtain ⟨-, h⟩ | ⟨-, rfl⟩ := State.withCop0_cases h
    · cases h
    · exact .trap _

/-- What steps S3 to S7 can answer: a trap's entry or the effect of an instruction. -/
theorem interruptOrRun_effect {s t : State} (h : s.interruptOrRun = .next t) : Effect s t := by
  have run : s.runInstruction = .next t → Effect s t := by
    intro h
    unfold State.runInstruction at h
    split at h
    · exact .of_raise h
    · split at h
      · exact runWord_effect h
      · cases h
  unfold State.interruptOrRun at h
  split at h
  · exact .of_raise h
  · exact run h

/-- Everything a step can do: time passes and the host acts, then the external reset, or an effect. -/
theorem step_cases {s t : State} (h : step s = .next t) :
    (∃ r, s.input.reset = some r ∧ t = (s.tick s.input).externalReset r) ∨
      (s.input.reset = none ∧ Effect (s.tick s.input) t) := by
  unfold step State.cycle State.cycleWith at h
  split at h
  · rename_i r hr
    exact .inl ⟨r, hr, by simpa using h.symm⟩
  · exact .inr ⟨‹_›, interruptOrRun_effect h⟩

/-- Everything a step can do, by the instruction it runs: the external reset, a trap's entry, or an instruction that
answered the next state. -/
theorem step_runs {s t : State} (h : step s = .next t) :
    (∃ r, s.input.reset = some r ∧ t = (s.tick s.input).externalReset r) ∨
      (s.input.reset = none ∧ ∃ e, t = (s.tick s.input).trapEntry e) ∨
      ∃ i, StepRuns s i ∧ exec i (s.tick s.input) = .next t := by
  unfold step State.cycle State.cycleWith at h
  split at h
  · rename_i r hr
    exact .inl ⟨r, hr, by simpa using h.symm⟩
  · rename_i hr
    refine .inr ?_
    have trap : ∀ e, (s.tick s.input).raise e = .next t → ∃ e, t = (s.tick s.input).trapEntry e := fun e h =>
      ⟨e, by simpa [State.raise] using h.symm⟩
    have run (hp : (s.tick s.input).dueInterrupt = none)
        (h : (s.tick s.input).runInstruction = .next t) :
        (s.input.reset = none ∧ ∃ e, t = (s.tick s.input).trapEntry e) ∨
          ∃ i, StepRuns s i ∧ exec i (s.tick s.input) = .next t := by
      unfold State.runInstruction at h
      split at h
      · exact .inl ⟨hr, trap _ h⟩
      · rename_i fetchOk
        split at h
        · rename_i w hw
          have runs : ∀ i, decode w = .instr i ∨ decode w = .shouldBeZero i → StepRuns s i := fun i hd =>
            ⟨hr, hp, Bool.eq_false_iff.mpr fetchOk, w, hw, hd⟩
          unfold State.runWord at h
          split at h
          · exact .inr ⟨_, runs _ (.inl ‹_›), h⟩
          · unfold State.runShouldBeZero at h
            split at h
            · exact .inl ⟨hr, trap _ h⟩
            · split at h
              · cases h
              · exact .inr ⟨_, runs _ (.inr ‹_›), h⟩
              · exact .inl ⟨hr, trap _ h⟩
          · exact .inl ⟨hr, trap _ h⟩
          · obtain ⟨-, h⟩ | ⟨-, rfl⟩ := State.withCop0_cases h
            · cases h
            · exact .inl ⟨hr, _, rfl⟩
        · cases h
    unfold State.interruptOrRun at h
    split at h
    · exact .inl ⟨hr, trap _ h⟩
    · exact run ‹_› h

end Sys2Proof.Machine
end

