-- ==== Sys2Proof/Laws/PerInstr.lean ====
section
/-! SUPPORT. The encoding of every instruction agrees with its row of spec/30_encoding.md R117 (R122 for the
coprocessor-unusable opcodes), constructor by constructor. -/

namespace Sys2Proof.Laws

/-! ### The conjunction of two words, field by field -/

theorem append_and {m n : Nat} {x x' z : BitVec m} (y y' : BitVec n) (h : x &&& x' = z) :
    (x ++ y) &&& (x' ++ y') = z ++ (y &&& y') := by
  subst h; ext i hi; simp [BitVec.getElem_append]

theorem rType_and (op op' : BitVec 6) (rs rs' rt rt' rd rd' sh sh' : BitVec 5) (f f' : BitVec 6) :
    rType op rs rt rd sh f &&& rType op' rs' rt' rd' sh' f' =
      rType (op &&& op') (rs &&& rs') (rt &&& rt') (rd &&& rd') (sh &&& sh') (f &&& f') :=
  append_and _ _ (append_and _ _ (append_and _ _ (append_and _ _ (append_and _ _ rfl))))

theorem iType_and (op op' : BitVec 6) (rs rs' rt rt' : BitVec 5) (imm imm' : BitVec 16) :
    iType op rs rt imm &&& iType op' rs' rt' imm' = iType (op &&& op') (rs &&& rs') (rt &&& rt') (imm &&& imm') :=
  append_and _ _ (append_and _ _ (append_and _ _ rfl))

theorem jType_and (op op' : BitVec 6) (t t' : BitVec 26) :
    jType op t &&& jType op' t' = jType (op &&& op') (t &&& t') :=
  append_and _ _ rfl

theorem codeType_and (op op' : BitVec 6) (c c' : BitVec 20) (f f' : BitVec 6) :
    codeType op c f &&& codeType op' c' f' = codeType (op &&& op') (c &&& c') (f &&& f') :=
  append_and _ _ (append_and _ _ rfl)

/-- The instruction's word has the printed zeros and codes of its row, whatever its operands. -/
def EncodingPattern.Statement (i : Instr) : Prop := i.row.conforms (encode i) = true

/-- The statement from its equation over fields; `m` is the row's mask cut into the same fields. -/
theorem conforms_of_fields {i : Instr} {m v : Word} (hm : i.row.mask = m) (h : encode i &&& m = v)
    (hv : v = i.row.pattern) : EncodingPattern.Statement i := by
  unfold EncodingPattern.Statement OpcodeRow.conforms
  rw [hm, h, hv]
  exact beq_self_eq_true _

theorem EncodingPattern.lb (rt : RegNo) (rs : RegNo) (imm : BitVec 16) : EncodingPattern.Statement (.lb rt rs imm) :=
  conforms_of_fields rfl (iType_and 0x20#6 0x3f#6 rs 0x0#5 rt 0x0#5 imm 0x0#16)
    (by simp only [BitVec.and_zero]; rfl)

theorem EncodingPattern.lh (rt : RegNo) (rs : RegNo) (imm : BitVec 16) : EncodingPattern.Statement (.lh rt rs imm) :=
  conforms_of_fields rfl (iType_and 0x21#6 0x3f#6 rs 0x0#5 rt 0x0#5 imm 0x0#16)
    (by simp only [BitVec.and_zero]; rfl)

theorem EncodingPattern.lw (rt : RegNo) (rs : RegNo) (imm : BitVec 16) : EncodingPattern.Statement (.lw rt rs imm) :=
  conforms_of_fields rfl (iType_and 0x23#6 0x3f#6 rs 0x0#5 rt 0x0#5 imm 0x0#16)
    (by simp only [BitVec.and_zero]; rfl)

theorem EncodingPattern.lbu (rt : RegNo) (rs : RegNo) (imm : BitVec 16) : EncodingPattern.Statement (.lbu rt rs imm) :=
  conforms_of_fields rfl (iType_and 0x24#6 0x3f#6 rs 0x0#5 rt 0x0#5 imm 0x0#16)
    (by simp only [BitVec.and_zero]; rfl)

theorem EncodingPattern.lhu (rt : RegNo) (rs : RegNo) (imm : BitVec 16) : EncodingPattern.Statement (.lhu rt rs imm) :=
  conforms_of_fields rfl (iType_and 0x25#6 0x3f#6 rs 0x0#5 rt 0x0#5 imm 0x0#16)
    (by simp only [BitVec.and_zero]; rfl)

theorem EncodingPattern.sb (rt : RegNo) (rs : RegNo) (imm : BitVec 16) : EncodingPattern.Statement (.sb rt rs imm) :=
  conforms_of_fields rfl (iType_and 0x28#6 0x3f#6 rs 0x0#5 rt 0x0#5 imm 0x0#16)
    (by simp only [BitVec.and_zero]; rfl)

theorem EncodingPattern.sh (rt : RegNo) (rs : RegNo) (imm : BitVec 16) : EncodingPattern.Statement (.sh rt rs imm) :=
  conforms_of_fields rfl (iType_and 0x29#6 0x3f#6 rs 0x0#5 rt 0x0#5 imm 0x0#16)
    (by simp only [BitVec.and_zero]; rfl)

theorem EncodingPattern.sw (rt : RegNo) (rs : RegNo) (imm : BitVec 16) : EncodingPattern.Statement (.sw rt rs imm) :=
  conforms_of_fields rfl (iType_and 0x2b#6 0x3f#6 rs 0x0#5 rt 0x0#5 imm 0x0#16)
    (by simp only [BitVec.and_zero]; rfl)

theorem EncodingPattern.addi (rt : RegNo) (rs : RegNo) (imm : BitVec 16) : EncodingPattern.Statement (.addi rt rs imm) :=
  conforms_of_fields rfl (iType_and 0x08#6 0x3f#6 rs 0x0#5 rt 0x0#5 imm 0x0#16)
    (by simp only [BitVec.and_zero]; rfl)

theorem EncodingPattern.addiu (rt : RegNo) (rs : RegNo) (imm : BitVec 16) : EncodingPattern.Statement (.addiu rt rs imm) :=
  conforms_of_fields rfl (iType_and 0x09#6 0x3f#6 rs 0x0#5 rt 0x0#5 imm 0x0#16)
    (by simp only [BitVec.and_zero]; rfl)

theorem EncodingPattern.slti (rt : RegNo) (rs : RegNo) (imm : BitVec 16) : EncodingPattern.Statement (.slti rt rs imm) :=
  conforms_of_fields rfl (iType_and 0x0a#6 0x3f#6 rs 0x0#5 rt 0x0#5 imm 0x0#16)
    (by simp only [BitVec.and_zero]; rfl)

theorem EncodingPattern.sltiu (rt : RegNo) (rs : RegNo) (imm : BitVec 16) : EncodingPattern.Statement (.sltiu rt rs imm) :=
  conforms_of_fields rfl (iType_and 0x0b#6 0x3f#6 rs 0x0#5 rt 0x0#5 imm 0x0#16)
    (by simp only [BitVec.and_zero]; rfl)

theorem EncodingPattern.andi (rt : RegNo) (rs : RegNo) (imm : BitVec 16) : EncodingPattern.Statement (.andi rt rs imm) :=
  conforms_of_fields rfl (iType_and 0x0c#6 0x3f#6 rs 0x0#5 rt 0x0#5 imm 0x0#16)
    (by simp only [BitVec.and_zero]; rfl)

theorem EncodingPattern.ori (rt : RegNo) (rs : RegNo) (imm : BitVec 16) : EncodingPattern.Statement (.ori rt rs imm) :=
  conforms_of_fields rfl (iType_and 0x0d#6 0x3f#6 rs 0x0#5 rt 0x0#5 imm 0x0#16)
    (by simp only [BitVec.and_zero]; rfl)

theorem EncodingPattern.xori (rt : RegNo) (rs : RegNo) (imm : BitVec 16) : EncodingPattern.Statement (.xori rt rs imm) :=
  conforms_of_fields rfl (iType_and 0x0e#6 0x3f#6 rs 0x0#5 rt 0x0#5 imm 0x0#16)
    (by simp only [BitVec.and_zero]; rfl)

theorem EncodingPattern.lui (rt : RegNo) (imm : BitVec 16) : EncodingPattern.Statement (.lui rt imm) :=
  conforms_of_fields rfl (iType_and 0x0f#6 0x3f#6 0x00#5 0x1f#5 rt 0x0#5 imm 0x0#16)
    (by simp only [BitVec.and_zero]; rfl)

theorem EncodingPattern.sll (rd : RegNo) (rt : RegNo) (shamt : BitVec 5) : EncodingPattern.Statement (.sll rd rt shamt) :=
  conforms_of_fields rfl (rType_and 0x00#6 0x3f#6 0x00#5 0x1f#5 rt 0x0#5 rd 0x0#5 shamt 0x0#5 0x00#6 0x3f#6)
    (by simp only [BitVec.and_zero]; rfl)

theorem EncodingPattern.srl (rd : RegNo) (rt : RegNo) (shamt : BitVec 5) : EncodingPattern.Statement (.srl rd rt shamt) :=
  conforms_of_fields rfl (rType_and 0x00#6 0x3f#6 0x00#5 0x1f#5 rt 0x0#5 rd 0x0#5 shamt 0x0#5 0x02#6 0x3f#6)
    (by simp only [BitVec.and_zero]; rfl)

theorem EncodingPattern.sra (rd : RegNo) (rt : RegNo) (shamt : BitVec 5) : EncodingPattern.Statement (.sra rd rt shamt) :=
  conforms_of_fields rfl (rType_and 0x00#6 0x3f#6 0x00#5 0x1f#5 rt 0x0#5 rd 0x0#5 shamt 0x0#5 0x03#6 0x3f#6)
    (by simp only [BitVec.and_zero]; rfl)

theorem EncodingPattern.sllv (rd : RegNo) (rt : RegNo) (rs : RegNo) : EncodingPattern.Statement (.sllv rd rt rs) :=
  conforms_of_fields rfl (rType_and 0x00#6 0x3f#6 rs 0x0#5 rt 0x0#5 rd 0x0#5 0x00#5 0x1f#5 0x04#6 0x3f#6)
    (by simp only [BitVec.and_zero]; rfl)

theorem EncodingPattern.srlv (rd : RegNo) (rt : RegNo) (rs : RegNo) : EncodingPattern.Statement (.srlv rd rt rs) :=
  conforms_of_fields rfl (rType_and 0x00#6 0x3f#6 rs 0x0#5 rt 0x0#5 rd 0x0#5 0x00#5 0x1f#5 0x06#6 0x3f#6)
    (by simp only [BitVec.and_zero]; rfl)

theorem EncodingPattern.srav (rd : RegNo) (rt : RegNo) (rs : RegNo) : EncodingPattern.Statement (.srav rd rt rs) :=
  conforms_of_fields rfl (rType_and 0x00#6 0x3f#6 rs 0x0#5 rt 0x0#5 rd 0x0#5 0x00#5 0x1f#5 0x07#6 0x3f#6)
    (by simp only [BitVec.and_zero]; rfl)

theorem EncodingPattern.add (rd : RegNo) (rs : RegNo) (rt : RegNo) : EncodingPattern.Statement (.add rd rs rt) :=
  conforms_of_fields rfl (rType_and 0x00#6 0x3f#6 rs 0x0#5 rt 0x0#5 rd 0x0#5 0x00#5 0x1f#5 0x20#6 0x3f#6)
    (by simp only [BitVec.and_zero]; rfl)

theorem EncodingPattern.addu (rd : RegNo) (rs : RegNo) (rt : RegNo) : EncodingPattern.Statement (.addu rd rs rt) :=
  conforms_of_fields rfl (rType_and 0x00#6 0x3f#6 rs 0x0#5 rt 0x0#5 rd 0x0#5 0x00#5 0x1f#5 0x21#6 0x3f#6)
    (by simp only [BitVec.and_zero]; rfl)

theorem EncodingPattern.sub (rd : RegNo) (rs : RegNo) (rt : RegNo) : EncodingPattern.Statement (.sub rd rs rt) :=
  conforms_of_fields rfl (rType_and 0x00#6 0x3f#6 rs 0x0#5 rt 0x0#5 rd 0x0#5 0x00#5 0x1f#5 0x22#6 0x3f#6)
    (by simp only [BitVec.and_zero]; rfl)

theorem EncodingPattern.subu (rd : RegNo) (rs : RegNo) (rt : RegNo) : EncodingPattern.Statement (.subu rd rs rt) :=
  conforms_of_fields rfl (rType_and 0x00#6 0x3f#6 rs 0x0#5 rt 0x0#5 rd 0x0#5 0x00#5 0x1f#5 0x23#6 0x3f#6)
    (by simp only [BitVec.and_zero]; rfl)

theorem EncodingPattern.and (rd : RegNo) (rs : RegNo) (rt : RegNo) : EncodingPattern.Statement (.and rd rs rt) :=
  conforms_of_fields rfl (rType_and 0x00#6 0x3f#6 rs 0x0#5 rt 0x0#5 rd 0x0#5 0x00#5 0x1f#5 0x24#6 0x3f#6)
    (by simp only [BitVec.and_zero]; rfl)

theorem EncodingPattern.or (rd : RegNo) (rs : RegNo) (rt : RegNo) : EncodingPattern.Statement (.or rd rs rt) :=
  conforms_of_fields rfl (rType_and 0x00#6 0x3f#6 rs 0x0#5 rt 0x0#5 rd 0x0#5 0x00#5 0x1f#5 0x25#6 0x3f#6)
    (by simp only [BitVec.and_zero]; rfl)

theorem EncodingPattern.xor (rd : RegNo) (rs : RegNo) (rt : RegNo) : EncodingPattern.Statement (.xor rd rs rt) :=
  conforms_of_fields rfl (rType_and 0x00#6 0x3f#6 rs 0x0#5 rt 0x0#5 rd 0x0#5 0x00#5 0x1f#5 0x26#6 0x3f#6)
    (by simp only [BitVec.and_zero]; rfl)

theorem EncodingPattern.nor (rd : RegNo) (rs : RegNo) (rt : RegNo) : EncodingPattern.Statement (.nor rd rs rt) :=
  conforms_of_fields rfl (rType_and 0x00#6 0x3f#6 rs 0x0#5 rt 0x0#5 rd 0x0#5 0x00#5 0x1f#5 0x27#6 0x3f#6)
    (by simp only [BitVec.and_zero]; rfl)

theorem EncodingPattern.slt (rd : RegNo) (rs : RegNo) (rt : RegNo) : EncodingPattern.Statement (.slt rd rs rt) :=
  conforms_of_fields rfl (rType_and 0x00#6 0x3f#6 rs 0x0#5 rt 0x0#5 rd 0x0#5 0x00#5 0x1f#5 0x2a#6 0x3f#6)
    (by simp only [BitVec.and_zero]; rfl)

theorem EncodingPattern.sltu (rd : RegNo) (rs : RegNo) (rt : RegNo) : EncodingPattern.Statement (.sltu rd rs rt) :=
  conforms_of_fields rfl (rType_and 0x00#6 0x3f#6 rs 0x0#5 rt 0x0#5 rd 0x0#5 0x00#5 0x1f#5 0x2b#6 0x3f#6)
    (by simp only [BitVec.and_zero]; rfl)

theorem EncodingPattern.mfhi (rd : RegNo) : EncodingPattern.Statement (.mfhi rd) :=
  conforms_of_fields rfl (rType_and 0x00#6 0x3f#6 0x00#5 0x1f#5 0x00#5 0x1f#5 rd 0x0#5 0x00#5 0x1f#5 0x10#6 0x3f#6)
    (by simp only [BitVec.and_zero]; rfl)

theorem EncodingPattern.mthi (rs : RegNo) : EncodingPattern.Statement (.mthi rs) :=
  conforms_of_fields rfl (rType_and 0x00#6 0x3f#6 rs 0x0#5 0x00#5 0x1f#5 0x00#5 0x1f#5 0x00#5 0x1f#5 0x11#6 0x3f#6)
    (by simp only [BitVec.and_zero]; rfl)

theorem EncodingPattern.mflo (rd : RegNo) : EncodingPattern.Statement (.mflo rd) :=
  conforms_of_fields rfl (rType_and 0x00#6 0x3f#6 0x00#5 0x1f#5 0x00#5 0x1f#5 rd 0x0#5 0x00#5 0x1f#5 0x12#6 0x3f#6)
    (by simp only [BitVec.and_zero]; rfl)

theorem EncodingPattern.mtlo (rs : RegNo) : EncodingPattern.Statement (.mtlo rs) :=
  conforms_of_fields rfl (rType_and 0x00#6 0x3f#6 rs 0x0#5 0x00#5 0x1f#5 0x00#5 0x1f#5 0x00#5 0x1f#5 0x13#6 0x3f#6)
    (by simp only [BitVec.and_zero]; rfl)

theorem EncodingPattern.mult (rs : RegNo) (rt : RegNo) : EncodingPattern.Statement (.mult rs rt) :=
  conforms_of_fields rfl (rType_and 0x00#6 0x3f#6 rs 0x0#5 rt 0x0#5 0x00#5 0x1f#5 0x00#5 0x1f#5 0x18#6 0x3f#6)
    (by simp only [BitVec.and_zero]; rfl)

theorem EncodingPattern.multu (rs : RegNo) (rt : RegNo) : EncodingPattern.Statement (.multu rs rt) :=
  conforms_of_fields rfl (rType_and 0x00#6 0x3f#6 rs 0x0#5 rt 0x0#5 0x00#5 0x1f#5 0x00#5 0x1f#5 0x19#6 0x3f#6)
    (by simp only [BitVec.and_zero]; rfl)

theorem EncodingPattern.div (rs : RegNo) (rt : RegNo) : EncodingPattern.Statement (.div rs rt) :=
  conforms_of_fields rfl (rType_and 0x00#6 0x3f#6 rs 0x0#5 rt 0x0#5 0x00#5 0x1f#5 0x00#5 0x1f#5 0x1a#6 0x3f#6)
    (by simp only [BitVec.and_zero]; rfl)

theorem EncodingPattern.divu (rs : RegNo) (rt : RegNo) : EncodingPattern.Statement (.divu rs rt) :=
  conforms_of_fields rfl (rType_and 0x00#6 0x3f#6 rs 0x0#5 rt 0x0#5 0x00#5 0x1f#5 0x00#5 0x1f#5 0x1b#6 0x3f#6)
    (by simp only [BitVec.and_zero]; rfl)

theorem EncodingPattern.j (target : BitVec 26) : EncodingPattern.Statement (.j target) :=
  conforms_of_fields rfl (jType_and 0x02#6 0x3f#6 target 0x0#26)
    (by simp only [BitVec.and_zero]; rfl)

theorem EncodingPattern.jal (target : BitVec 26) : EncodingPattern.Statement (.jal target) :=
  conforms_of_fields rfl (jType_and 0x03#6 0x3f#6 target 0x0#26)
    (by simp only [BitVec.and_zero]; rfl)

theorem EncodingPattern.jr (rs : RegNo) : EncodingPattern.Statement (.jr rs) :=
  conforms_of_fields rfl (rType_and 0x00#6 0x3f#6 rs 0x0#5 0x00#5 0x1f#5 0x00#5 0x1f#5 0x00#5 0x1f#5 0x08#6 0x3f#6)
    (by simp only [BitVec.and_zero]; rfl)

theorem EncodingPattern.jalr (rd : RegNo) (rs : RegNo) : EncodingPattern.Statement (.jalr rd rs) :=
  conforms_of_fields rfl (rType_and 0x00#6 0x3f#6 rs 0x0#5 0x00#5 0x1f#5 rd 0x0#5 0x00#5 0x1f#5 0x09#6 0x3f#6)
    (by simp only [BitVec.and_zero]; rfl)

theorem EncodingPattern.beq (rs : RegNo) (rt : RegNo) (imm : BitVec 16) : EncodingPattern.Statement (.beq rs rt imm) :=
  conforms_of_fields rfl (iType_and 0x04#6 0x3f#6 rs 0x0#5 rt 0x0#5 imm 0x0#16)
    (by simp only [BitVec.and_zero]; rfl)

theorem EncodingPattern.bne (rs : RegNo) (rt : RegNo) (imm : BitVec 16) : EncodingPattern.Statement (.bne rs rt imm) :=
  conforms_of_fields rfl (iType_and 0x05#6 0x3f#6 rs 0x0#5 rt 0x0#5 imm 0x0#16)
    (by simp only [BitVec.and_zero]; rfl)

theorem EncodingPattern.blez (rs : RegNo) (imm : BitVec 16) : EncodingPattern.Statement (.blez rs imm) :=
  conforms_of_fields rfl (iType_and 0x06#6 0x3f#6 rs 0x0#5 0x00#5 0x1f#5 imm 0x0#16)
    (by simp only [BitVec.and_zero]; rfl)

theorem EncodingPattern.bgtz (rs : RegNo) (imm : BitVec 16) : EncodingPattern.Statement (.bgtz rs imm) :=
  conforms_of_fields rfl (iType_and 0x07#6 0x3f#6 rs 0x0#5 0x00#5 0x1f#5 imm 0x0#16)
    (by simp only [BitVec.and_zero]; rfl)

theorem EncodingPattern.beql (rs : RegNo) (rt : RegNo) (imm : BitVec 16) : EncodingPattern.Statement (.beql rs rt imm) :=
  conforms_of_fields rfl (iType_and 0x14#6 0x3f#6 rs 0x0#5 rt 0x0#5 imm 0x0#16)
    (by simp only [BitVec.and_zero]; rfl)

theorem EncodingPattern.bnel (rs : RegNo) (rt : RegNo) (imm : BitVec 16) : EncodingPattern.Statement (.bnel rs rt imm) :=
  conforms_of_fields rfl (iType_and 0x15#6 0x3f#6 rs 0x0#5 rt 0x0#5 imm 0x0#16)
    (by simp only [BitVec.and_zero]; rfl)

theorem EncodingPattern.blezl (rs : RegNo) (imm : BitVec 16) : EncodingPattern.Statement (.blezl rs imm) :=
  conforms_of_fields rfl (iType_and 0x16#6 0x3f#6 rs 0x0#5 0x00#5 0x1f#5 imm 0x0#16)
    (by simp only [BitVec.and_zero]; rfl)

theorem EncodingPattern.bgtzl (rs : RegNo) (imm : BitVec 16) : EncodingPattern.Statement (.bgtzl rs imm) :=
  conforms_of_fields rfl (iType_and 0x17#6 0x3f#6 rs 0x0#5 0x00#5 0x1f#5 imm 0x0#16)
    (by simp only [BitVec.and_zero]; rfl)

theorem EncodingPattern.bltz (rs : RegNo) (imm : BitVec 16) : EncodingPattern.Statement (.bltz rs imm) :=
  conforms_of_fields rfl (iType_and 0x01#6 0x3f#6 rs 0x0#5 0x00#5 0x1f#5 imm 0x0#16)
    (by simp only [BitVec.and_zero]; rfl)

theorem EncodingPattern.bgez (rs : RegNo) (imm : BitVec 16) : EncodingPattern.Statement (.bgez rs imm) :=
  conforms_of_fields rfl (iType_and 0x01#6 0x3f#6 rs 0x0#5 0x01#5 0x1f#5 imm 0x0#16)
    (by simp only [BitVec.and_zero]; rfl)

theorem EncodingPattern.bltzl (rs : RegNo) (imm : BitVec 16) : EncodingPattern.Statement (.bltzl rs imm) :=
  conforms_of_fields rfl (iType_and 0x01#6 0x3f#6 rs 0x0#5 0x02#5 0x1f#5 imm 0x0#16)
    (by simp only [BitVec.and_zero]; rfl)

theorem EncodingPattern.bgezl (rs : RegNo) (imm : BitVec 16) : EncodingPattern.Statement (.bgezl rs imm) :=
  conforms_of_fields rfl (iType_and 0x01#6 0x3f#6 rs 0x0#5 0x03#5 0x1f#5 imm 0x0#16)
    (by simp only [BitVec.and_zero]; rfl)

theorem EncodingPattern.bltzal (rs : RegNo) (imm : BitVec 16) : EncodingPattern.Statement (.bltzal rs imm) :=
  conforms_of_fields rfl (iType_and 0x01#6 0x3f#6 rs 0x0#5 0x10#5 0x1f#5 imm 0x0#16)
    (by simp only [BitVec.and_zero]; rfl)

theorem EncodingPattern.bgezal (rs : RegNo) (imm : BitVec 16) : EncodingPattern.Statement (.bgezal rs imm) :=
  conforms_of_fields rfl (iType_and 0x01#6 0x3f#6 rs 0x0#5 0x11#5 0x1f#5 imm 0x0#16)
    (by simp only [BitVec.and_zero]; rfl)

theorem EncodingPattern.bltzall (rs : RegNo) (imm : BitVec 16) : EncodingPattern.Statement (.bltzall rs imm) :=
  conforms_of_fields rfl (iType_and 0x01#6 0x3f#6 rs 0x0#5 0x12#5 0x1f#5 imm 0x0#16)
    (by simp only [BitVec.and_zero]; rfl)

theorem EncodingPattern.bgezall (rs : RegNo) (imm : BitVec 16) : EncodingPattern.Statement (.bgezall rs imm) :=
  conforms_of_fields rfl (iType_and 0x01#6 0x3f#6 rs 0x0#5 0x13#5 0x1f#5 imm 0x0#16)
    (by simp only [BitVec.and_zero]; rfl)

theorem EncodingPattern.mfc0 (rt : RegNo) (rd : Cp0No) : EncodingPattern.Statement (.mfc0 rt rd) :=
  conforms_of_fields rfl (rType_and 0x10#6 0x3f#6 0x00#5 0x1f#5 rt 0x0#5 rd 0x0#5 0x00#5 0x1f#5 0x00#6 0x3f#6)
    (by simp only [BitVec.and_zero]; rfl)

theorem EncodingPattern.mtc0 (rt : RegNo) (rd : Cp0No) : EncodingPattern.Statement (.mtc0 rt rd) :=
  conforms_of_fields rfl (rType_and 0x10#6 0x3f#6 0x04#5 0x1f#5 rt 0x0#5 rd 0x0#5 0x00#5 0x1f#5 0x00#6 0x3f#6)
    (by simp only [BitVec.and_zero]; rfl)

theorem EncodingPattern.rfe : EncodingPattern.Statement .rfe :=
  conforms_of_fields rfl (rType_and 0x10#6 0x3f#6 0x10#5 0x1f#5 0x00#5 0x1f#5 0x00#5 0x1f#5 0x00#5 0x1f#5 0x10#6 0x3f#6)
    rfl

theorem EncodingPattern.icinv : EncodingPattern.Statement .icinv :=
  conforms_of_fields rfl (rType_and 0x10#6 0x3f#6 0x10#5 0x1f#5 0x00#5 0x1f#5 0x00#5 0x1f#5 0x00#5 0x1f#5 0x14#6 0x3f#6)
    rfl

theorem EncodingPattern.syscall (code : BitVec 20) : EncodingPattern.Statement (.syscall code) :=
  conforms_of_fields rfl (codeType_and 0x00#6 0x3f#6 code 0x0#20 0x0c#6 0x3f#6)
    (by simp only [BitVec.and_zero]; rfl)

theorem EncodingPattern.breakpoint (code : BitVec 20) : EncodingPattern.Statement (.breakpoint code) :=
  conforms_of_fields rfl (codeType_and 0x00#6 0x3f#6 code 0x0#20 0x0d#6 0x3f#6)
    (by simp only [BitVec.and_zero]; rfl)

theorem EncodingPattern.sync (code : BitVec 20) : EncodingPattern.Statement (.sync code) :=
  conforms_of_fields rfl (codeType_and 0x00#6 0x3f#6 code 0x0#20 0x0f#6 0x3f#6)
    (by simp only [BitVec.and_zero]; rfl)

theorem EncodingPattern.cop1Unusable010001 (bits : BitVec 26) : EncodingPattern.Statement (.cop1Unusable010001 bits) :=
  conforms_of_fields rfl (jType_and 0x11#6 0x3f#6 bits 0x0#26)
    (by simp only [BitVec.and_zero]; rfl)

theorem EncodingPattern.cop1Unusable110001 (bits : BitVec 26) : EncodingPattern.Statement (.cop1Unusable110001 bits) :=
  conforms_of_fields rfl (jType_and 0x31#6 0x3f#6 bits 0x0#26)
    (by simp only [BitVec.and_zero]; rfl)

theorem EncodingPattern.cop1Unusable110101 (bits : BitVec 26) : EncodingPattern.Statement (.cop1Unusable110101 bits) :=
  conforms_of_fields rfl (jType_and 0x35#6 0x3f#6 bits 0x0#26)
    (by simp only [BitVec.and_zero]; rfl)

theorem EncodingPattern.cop1Unusable111001 (bits : BitVec 26) : EncodingPattern.Statement (.cop1Unusable111001 bits) :=
  conforms_of_fields rfl (jType_and 0x39#6 0x3f#6 bits 0x0#26)
    (by simp only [BitVec.and_zero]; rfl)

theorem EncodingPattern.cop1Unusable111101 (bits : BitVec 26) : EncodingPattern.Statement (.cop1Unusable111101 bits) :=
  conforms_of_fields rfl (jType_and 0x3d#6 0x3f#6 bits 0x0#26)
    (by simp only [BitVec.and_zero]; rfl)

theorem EncodingPattern.cop2Unusable010010 (bits : BitVec 26) : EncodingPattern.Statement (.cop2Unusable010010 bits) :=
  conforms_of_fields rfl (jType_and 0x12#6 0x3f#6 bits 0x0#26)
    (by simp only [BitVec.and_zero]; rfl)

theorem EncodingPattern.cop2Unusable110010 (bits : BitVec 26) : EncodingPattern.Statement (.cop2Unusable110010 bits) :=
  conforms_of_fields rfl (jType_and 0x32#6 0x3f#6 bits 0x0#26)
    (by simp only [BitVec.and_zero]; rfl)

theorem EncodingPattern.cop2Unusable110110 (bits : BitVec 26) : EncodingPattern.Statement (.cop2Unusable110110 bits) :=
  conforms_of_fields rfl (jType_and 0x36#6 0x3f#6 bits 0x0#26)
    (by simp only [BitVec.and_zero]; rfl)

theorem EncodingPattern.cop2Unusable111010 (bits : BitVec 26) : EncodingPattern.Statement (.cop2Unusable111010 bits) :=
  conforms_of_fields rfl (jType_and 0x3a#6 0x3f#6 bits 0x0#26)
    (by simp only [BitVec.and_zero]; rfl)

theorem EncodingPattern.cop2Unusable111110 (bits : BitVec 26) : EncodingPattern.Statement (.cop2Unusable111110 bits) :=
  conforms_of_fields rfl (jType_and 0x3e#6 0x3f#6 bits 0x0#26)
    (by simp only [BitVec.and_zero]; rfl)

theorem EncodingPattern.cop3Unusable010011 (bits : BitVec 26) : EncodingPattern.Statement (.cop3Unusable010011 bits) :=
  conforms_of_fields rfl (jType_and 0x13#6 0x3f#6 bits 0x0#26)
    (by simp only [BitVec.and_zero]; rfl)

theorem EncodingPattern.cop3Unusable110011 (bits : BitVec 26) : EncodingPattern.Statement (.cop3Unusable110011 bits) :=
  conforms_of_fields rfl (jType_and 0x33#6 0x3f#6 bits 0x0#26)
    (by simp only [BitVec.and_zero]; rfl)

theorem EncodingPattern.cop3Unusable110111 (bits : BitVec 26) : EncodingPattern.Statement (.cop3Unusable110111 bits) :=
  conforms_of_fields rfl (jType_and 0x37#6 0x3f#6 bits 0x0#26)
    (by simp only [BitVec.and_zero]; rfl)

theorem EncodingPattern.cop3Unusable111011 (bits : BitVec 26) : EncodingPattern.Statement (.cop3Unusable111011 bits) :=
  conforms_of_fields rfl (jType_and 0x3b#6 0x3f#6 bits 0x0#26)
    (by simp only [BitVec.and_zero]; rfl)

theorem EncodingPattern.cop3Unusable111111 (bits : BitVec 26) : EncodingPattern.Statement (.cop3Unusable111111 bits) :=
  conforms_of_fields rfl (jType_and 0x3f#6 0x3f#6 bits 0x0#26)
    (by simp only [BitVec.and_zero]; rfl)

end Sys2Proof.Laws
end

