-- ==== Sys2Proof/Tests/Slice0.lean ====
section
/-! SUPPORT. Tests of the model, each a named theorem proved by evaluation. The words and the expected results come from
spec/95_test_vectors.md (Parts 2 to 5) and spec/30_encoding.md R117 to R122. At the end stand the witnesses: for each
obligation with hypotheses, a concrete state and operands that meet them. -/

namespace Sys2Proof.Tests

open Sys2Proof.Machine

/-! ### Helpers -/

/-- The start state of spec/95_test_vectors.md Part 1: kernel mode, interrupts off, one cycle a step. -/
def start (pc : Word) (regs : List (RegNo × Word)) : State :=
  regs.foldl (fun (s : State) p => s.setReg p.1 p.2)
    { State.reset with pc := pc, npc := pc + 4#32, inputs := [⟨0, [], none, 0⟩] }

/-- One step with the given word at `pc`. -/
def ran (s : State) (w : Word) : Result := step (s.withFetchWord 32 w.toNat)

/-- Something about the next state, if there is one. -/
def after {α : Type} (f : State → α) : Result → Option α
  | .next t => some (f t)
  | .fault _ => none
  | .refused _ => none

/-- The result is a next state. -/
def goes (r : Result) : Bool := (after (fun _ => ()) r).isSome

/-- The reason the step was refused, if it was. -/
def refusal : Result → Option Refusal
  | .next _ => none
  | .fault _ => none
  | .refused r => some r

/-- What trap entry recorded, and where it went. -/
def trapOf (t : State) : BitVec 5 × Bool × Word × Word := (t.cause.excCode, t.cause.bd, t.epc, t.pc)

/-- The same, as a vector of Part 3 gives it. -/
def trapped (code : BitVec 5) (bd : Bool) (epc : Word) : BitVec 5 × Bool × Word × Word := (code, bd, epc, 0x1100#32)

/-- Where execution goes on. -/
def flowOf (t : State) : Word × Word × Bool := (t.pc, t.npc, t.ds)

/-- The bytes 80 91 a2 b3 7f 01 fe ff of Part 3.1. -/
def loadBytes : Memory :=
  [(0x80004000, 0x80#8), (0x80004001, 0x91#8), (0x80004002, 0xa2#8), (0x80004003, 0xb3#8), (0x80004004, 0x7f#8),
    (0x80004005, 0x01#8), (0x80004006, 0xfe#8), (0x80004007, 0xff#8)]

/-- The bytes 11 22 33 44 55 66 77 88 of Part 3.3. -/
def storeBytes : Memory :=
  [(0x80004000, 0x11#8), (0x80004001, 0x22#8), (0x80004002, 0x33#8), (0x80004003, 0x44#8), (0x80004004, 0x55#8),
    (0x80004005, 0x66#8), (0x80004006, 0x77#8), (0x80004007, 0x88#8)]

/-- The bytes ca fe f0 0d at address 0. -/
def lowBytes : Memory := [(0, 0xca#8), (1, 0xfe#8), (2, 0xf0#8), (3, 0x0d#8)]

/-- `cause` with the given pending flags and nothing else. -/
def pending (ip7 ip6 : Bool) : Cause := { bd := false, ce := 0#2, ip7 := ip7, ip6 := ip6, excCode := 0#5 }

/-! ### Well-formed words (spec/30_encoding.md R117, R118) -/

/-- A word with a should-be-zero field set is refused: ADD with shamt 1, LUI with rs 1, RFE with rs 10001, MFC0 with
bit 0, JR with rd 1, MULT with rd 1. -/
theorem test_should_be_zero_is_ill_formed :
    wellFormedWord 0x00853060#32 = false ∧ wellFormedWord 0x3c280001#32 = false ∧ wellFormedWord 0x42200010#32 = false ∧
      wellFormedWord 0x40087001#32 = false ∧ wellFormedWord 0x01200808#32 = false ∧
      wellFormedWord 0x00850818#32 = false := by decide

/-- A word of a reserved cell is refused, in each of the three charts. -/
theorem test_reserved_is_ill_formed :
    wellFormedWord 0x60000000#32 = false ∧ wellFormedWord 0x00000034#32 = false ∧
      wellFormedWord 0x04080000#32 = false := by decide

/-- An illegal COP0 word is refused. -/
theorem test_illegal_cop0_is_ill_formed :
    wellFormedWord 0x40200000#32 = false ∧ wellFormedWord 0x42000018#32 = false := by decide

/-- No word agrees with two rows (spec/95_test_vectors.md Part 5). -/
theorem test_rows_are_disjoint :
    opcodeRows.Pairwise fun a b => (a.pattern ^^^ b.pattern) &&& (a.mask &&& b.mask) ≠ 0#32 := by decide

/-! ### Decoding (spec/30_encoding.md R117 to R122) -/

theorem test_decode_loads_and_stores :
    decode 0x80880001#32 = .instr (.lb 8#5 4#5 0x1#16) ∧
      decode 0x84880002#32 = .instr (.lh 8#5 4#5 0x2#16) ∧
      decode 0x8c88fffc#32 = .instr (.lw 8#5 4#5 0xfffc#16) ∧
      decode 0x90880003#32 = .instr (.lbu 8#5 4#5 0x3#16) ∧
      decode 0x94880006#32 = .instr (.lhu 8#5 4#5 0x6#16) ∧
      decode 0xa0850001#32 = .instr (.sb 5#5 4#5 0x1#16) ∧
      decode 0xa4850002#32 = .instr (.sh 5#5 4#5 0x2#16) ∧
      decode 0xac850002#32 = .instr (.sw 5#5 4#5 0x2#16) := by decide

theorem test_decode_immediate :
    decode 0x20880001#32 = .instr (.addi 8#5 4#5 0x1#16) ∧
      decode 0x24880001#32 = .instr (.addiu 8#5 4#5 0x1#16) ∧
      decode 0x2888ffff#32 = .instr (.slti 8#5 4#5 0xffff#16) ∧
      decode 0x2c88ffff#32 = .instr (.sltiu 8#5 4#5 0xffff#16) ∧
      decode 0x3088ff00#32 = .instr (.andi 8#5 4#5 0xff00#16) ∧
      decode 0x34888000#32 = .instr (.ori 8#5 4#5 0x8000#16) ∧
      decode 0x3888ffff#32 = .instr (.xori 8#5 4#5 0xffff#16) ∧
      decode 0x3c088000#32 = .instr (.lui 8#5 0x8000#16) := by decide

theorem test_decode_register :
    decode 0x00053040#32 = .instr (.sll 6#5 5#5 1#5) ∧
      decode 0x00053042#32 = .instr (.srl 6#5 5#5 1#5) ∧
      decode 0x00053043#32 = .instr (.sra 6#5 5#5 1#5) ∧
      decode 0x00853004#32 = .instr (.sllv 6#5 5#5 4#5) ∧
      decode 0x00853006#32 = .instr (.srlv 6#5 5#5 4#5) ∧
      decode 0x00853007#32 = .instr (.srav 6#5 5#5 4#5) ∧
      decode 0x00853020#32 = .instr (.add 6#5 4#5 5#5) ∧
      decode 0x00853021#32 = .instr (.addu 6#5 4#5 5#5) ∧
      decode 0x00853022#32 = .instr (.sub 6#5 4#5 5#5) ∧
      decode 0x00853023#32 = .instr (.subu 6#5 4#5 5#5) ∧
      decode 0x00853024#32 = .instr (.and 6#5 4#5 5#5) ∧
      decode 0x00853025#32 = .instr (.or 6#5 4#5 5#5) ∧
      decode 0x00853026#32 = .instr (.xor 6#5 4#5 5#5) ∧
      decode 0x00853027#32 = .instr (.nor 6#5 4#5 5#5) ∧
      decode 0x0085302a#32 = .instr (.slt 6#5 4#5 5#5) ∧
      decode 0x0085302b#32 = .instr (.sltu 6#5 4#5 5#5) := by decide

theorem test_decode_multiply_divide :
    decode 0x00003010#32 = .instr (.mfhi 6#5) ∧
      decode 0x00800011#32 = .instr (.mthi 4#5) ∧
      decode 0x00003012#32 = .instr (.mflo 6#5) ∧
      decode 0x00800013#32 = .instr (.mtlo 4#5) ∧
      decode 0x00850018#32 = .instr (.mult 4#5 5#5) ∧
      decode 0x00850019#32 = .instr (.multu 4#5 5#5) ∧
      decode 0x0085001a#32 = .instr (.div 4#5 5#5) ∧
      decode 0x0085001b#32 = .instr (.divu 4#5 5#5) := by decide

theorem test_decode_jumps_and_branches :
    decode 0x08000500#32 = .instr (.j 0x500#26) ∧
      decode 0x0c000500#32 = .instr (.jal 0x500#26) ∧
      decode 0x01200008#32 = .instr (.jr 9#5) ∧
      decode 0x0120f809#32 = .instr (.jalr 31#5 9#5) ∧
      decode 0x10850003#32 = .instr (.beq 4#5 5#5 0x3#16) ∧
      decode 0x14850003#32 = .instr (.bne 4#5 5#5 0x3#16) ∧
      decode 0x18800004#32 = .instr (.blez 4#5 0x4#16) ∧
      decode 0x1c800004#32 = .instr (.bgtz 4#5 0x4#16) ∧
      decode 0x50850003#32 = .instr (.beql 4#5 5#5 0x3#16) ∧
      decode 0x5485fffe#32 = .instr (.bnel 4#5 5#5 0xfffe#16) ∧
      decode 0x58800004#32 = .instr (.blezl 4#5 0x4#16) ∧
      decode 0x5c800004#32 = .instr (.bgtzl 4#5 0x4#16) ∧
      decode 0x04800004#32 = .instr (.bltz 4#5 0x4#16) ∧
      decode 0x04810004#32 = .instr (.bgez 4#5 0x4#16) ∧
      decode 0x04820004#32 = .instr (.bltzl 4#5 0x4#16) ∧
      decode 0x04830004#32 = .instr (.bgezl 4#5 0x4#16) ∧
      decode 0x07f00004#32 = .instr (.bltzal 31#5 0x4#16) ∧
      decode 0x07f10004#32 = .instr (.bgezal 31#5 0x4#16) ∧
      decode 0x04920004#32 = .instr (.bltzall 4#5 0x4#16) ∧
      decode 0x04930004#32 = .instr (.bgezall 4#5 0x4#16) := by decide

theorem test_decode_system :
    decode 0x40084800#32 = .instr (.mfc0 8#5 9#5) ∧
      decode 0x40844800#32 = .instr (.mtc0 4#5 9#5) ∧
      decode 0x42000010#32 = .instr .rfe ∧
      decode 0x42000014#32 = .instr .icinv ∧
      decode 0x03ffffcc#32 = .instr (.syscall 0xfffff#20) ∧
      decode 0x000001cd#32 = .instr (.breakpoint 0x7#20) ∧
      decode 0x0000000f#32 = .instr (.sync 0x0#20) := by decide

theorem test_decode_unusable_1 :
    decode 0x44000000#32 = .instr (.cop1Unusable010001 0x0#26) ∧
      decode 0xc4000000#32 = .instr (.cop1Unusable110001 0x0#26) ∧
      decode 0xd6345678#32 = .instr (.cop1Unusable110101 0x2345678#26) ∧
      decode 0xe6345678#32 = .instr (.cop1Unusable111001 0x2345678#26) ∧
      decode 0xf4000000#32 = .instr (.cop1Unusable111101 0x0#26) := by decide

theorem test_decode_unusable_2 :
    decode 0x48000000#32 = .instr (.cop2Unusable010010 0x0#26) ∧
      decode 0xca345678#32 = .instr (.cop2Unusable110010 0x2345678#26) ∧
      decode 0xda345678#32 = .instr (.cop2Unusable110110 0x2345678#26) ∧
      decode 0xe8000000#32 = .instr (.cop2Unusable111010 0x0#26) ∧
      decode 0xfa345678#32 = .instr (.cop2Unusable111110 0x2345678#26) := by decide

theorem test_decode_unusable_3 :
    decode 0x4c000000#32 = .instr (.cop3Unusable010011 0x0#26) ∧
      decode 0xcc000000#32 = .instr (.cop3Unusable110011 0x0#26) ∧
      decode 0xde345678#32 = .instr (.cop3Unusable110111 0x2345678#26) ∧
      decode 0xee345678#32 = .instr (.cop3Unusable111011 0x2345678#26) ∧
      decode 0xffffffff#32 = .instr (.cop3Unusable111111 0x3ffffff#26) := by decide

/-- The classes of Part 5, and the refused words of Part 3. -/
theorem test_decode_classes :
    decode 0x00000000#32 = .instr (.sll 0#5 0#5 0#5) ∧ decode 0x42000018#32 = .illegalCop0 ∧
      decode 0x04040000#32 = .reserved ∧ decode 0x70000000#32 = .reserved ∧ decode 0xc0000000#32 = .reserved ∧
      decode 0x00853060#32 = .shouldBeZero (.add 6#5 4#5 5#5) ∧
      decode 0x42200010#32 = .shouldBeZero .rfe := by decide

/-- Bit 31 is in the byte at the lowest address, and `decodeTableWord` reads a word as the table numbers its bits. -/
theorem test_decode_bytes :
    decodeBytes [0x20#8, 0x88#8, 0x00#8, 0x01#8] = some (.instr (.addi 8#5 4#5 1#16)) ∧
      decodeTableWord 32 0x20880001 = some (.addi 8#5 4#5 1#16) ∧ decodeTableWord 32 0x60000000 = none := by decide

/-! ### One step of one instruction (spec/95_test_vectors.md Part 3) -/

theorem test_lb_sign_extends_last_byte :
    after (fun t => (t.reg 8#5, t.pc))
        (ran { start 0x2000#32 [(4#5, 0x80004000#32)] with mem := loadBytes } 0x80880003#32) =
      some (0xffffffb3#32, 0x2004#32) := by decide

theorem test_lb_kseg_from_user_traps :
    after (fun t => (trapOf t, t.badvaddr))
        (ran
          { start 0x80002000#32 [(4#5, 0x80000000#32)] with status := Status.ofWord 0x2#32, mem := loadBytes }
          0x8088ffff#32) =
      some (trapped 4#5 false 0x80002000#32, 0x7fffffff#32) := by decide

theorem test_lh_low_half :
    after (fun t => (t.reg 8#5, t.pc))
        (ran { start 0x2000#32 [(4#5, 0x80004000#32)] with mem := loadBytes } 0x84880002#32) =
      some (0xffffa2b3#32, 0x2004#32) := by decide

theorem test_lw_negative_offset :
    after (fun t => (t.reg 8#5, t.pc))
        (ran { start 0x2000#32 [(4#5, 0x80004004#32)] with mem := loadBytes } 0x8c88fffc#32) =
      some (0x8091a2b3#32, 0x2004#32) := by decide

theorem test_lw_address_wraps :
    after (fun t => (t.reg 8#5, t.pc))
        (ran
          { start 0x2000#32 [(4#5, 0xffffffff#32)] with mem := lowBytes }
          0x8c880001#32) =
      some (0xcafef00d#32, 0x2004#32) := by decide

theorem test_lbu_zero_extends :
    after (fun t => (t.reg 8#5, t.pc))
        (ran { start 0x2000#32 [(4#5, 0x80004000#32)] with mem := loadBytes } 0x90880003#32) =
      some (0xb3#32, 0x2004#32) := by decide

theorem test_lhu_zero_extends :
    after (fun t => (t.reg 8#5, t.pc))
        (ran { start 0x2000#32 [(4#5, 0x80004000#32)] with mem := loadBytes } 0x94880006#32) =
      some (0xfeff#32, 0x2004#32) := by decide

theorem test_lhu_odd_address_traps :
    after (fun t => (trapOf t, t.badvaddr))
        (ran { start 0x2000#32 [(4#5, 0x80004000#32)] with mem := loadBytes } 0x94880003#32) =
      some (trapped 4#5 false 0x2000#32, 0x80004003#32) := by decide

theorem test_sb_second_byte :
    after (fun t => (t.readWord 0x80004000#32, t.pc))
        (ran { start 0x2000#32 [(4#5, 0x80004000#32), (5#5, 0xaabbccdd#32)] with mem := storeBytes } 0xa0850001#32) =
      some (0x11dd3344#32, 0x2004#32) := by decide

theorem test_sb_kseg_from_user_traps :
    after (fun t => (trapOf t, t.badvaddr))
        (ran
          { start 0x80002000#32 [(4#5, 0x4000#32), (5#5, 0xaabbccdd#32)] with status := Status.ofWord 0x2#32 }
          0xa0850000#32) =
      some (trapped 5#5 false 0x80002000#32, 0x4000#32) := by decide

theorem test_sh_low_half :
    after (fun t => (t.readWord 0x80004000#32, t.pc))
        (ran { start 0x2000#32 [(4#5, 0x80004000#32), (5#5, 0xaabbccdd#32)] with mem := storeBytes } 0xa4850002#32) =
      some (0x1122ccdd#32, 0x2004#32) := by decide

theorem test_sh_odd_address_traps :
    after (fun t => (trapOf t, t.badvaddr))
        (ran { start 0x2000#32 [(4#5, 0x80004000#32), (5#5, 0xaabbccdd#32)] with mem := storeBytes } 0xa4850001#32) =
      some (trapped 5#5 false 0x2000#32, 0x80004001#32) := by decide

theorem test_sw_offset :
    after (fun t => (t.readWord 0x80004004#32, t.pc))
        (ran { start 0x2000#32 [(4#5, 0x80004000#32), (5#5, 0xaabbccdd#32)] with mem := storeBytes } 0xac850004#32) =
      some (0xaabbccdd#32, 0x2004#32) := by decide

theorem test_sw_off_word_boundary_traps :
    after (fun t => (trapOf t, t.badvaddr))
        (ran { start 0x2000#32 [(4#5, 0x80004000#32), (5#5, 0xaabbccdd#32)] with mem := storeBytes } 0xac850002#32) =
      some (trapped 5#5 false 0x2000#32, 0x80004002#32) := by decide

theorem test_addi_up_to_the_largest :
    after (fun t => (t.reg 8#5, t.pc))
        (ran (start 0x2000#32 [(4#5, 0x7fff8000#32)]) 0x20887fff#32) =
      some (0x7fffffff#32, 0x2004#32) := by decide

theorem test_addi_overflow_keeps_the_register :
    after (fun t => (trapOf t, t.reg 4#5))
        (ran (start 0x2000#32 [(4#5, 0x7fffffff#32)]) 0x20840001#32) =
      some (trapped 12#5 false 0x2000#32, 0x7fffffff#32) := by decide

theorem test_addiu_wraps :
    after (fun t => (t.reg 8#5, t.pc))
        (ran (start 0x2000#32 [(4#5, 0x80000000#32)]) 0x24888000#32) =
      some (0x7fff8000#32, 0x2004#32) := by decide

theorem test_slti_signed :
    after (fun t => (t.reg 8#5, t.pc))
        (ran (start 0x2000#32 [(4#5, 0x80000000#32)]) 0x2888ffff#32) =
      some (0x1#32, 0x2004#32) := by decide

theorem test_slti_not_less :
    after (fun t => (t.reg 8#5, t.pc))
        (ran (start 0x2000#32 [(4#5, 0x8000#32)]) 0x28887fff#32) =
      some (0x0#32, 0x2004#32) := by decide

theorem test_sltiu_sign_extends_then_unsigned :
    after (fun t => (t.reg 8#5, t.pc))
        (ran (start 0x2000#32 [(4#5, 0xffff7fff#32)]) 0x2c888000#32) =
      some (0x1#32, 0x2004#32) := by decide

theorem test_andi_zero_extends :
    after (fun t => (t.reg 8#5, t.pc))
        (ran (start 0x2000#32 [(4#5, 0xffffffff#32)]) 0x3088ff00#32) =
      some (0xff00#32, 0x2004#32) := by decide

theorem test_ori_zero_extends :
    after (fun t => (t.reg 8#5, t.pc))
        (ran (start 0x2000#32 [(4#5, 0x12340000#32)]) 0x34888000#32) =
      some (0x12348000#32, 0x2004#32) := by decide

theorem test_xori_zero_extends :
    after (fun t => (t.reg 8#5, t.pc))
        (ran (start 0x2000#32 [(4#5, 0xffff0f0f#32)]) 0x3888ffff#32) =
      some (0xfffff0f0#32, 0x2004#32) := by decide

theorem test_lui_upper_half :
    after (fun t => (t.reg 8#5, t.pc))
        (ran (start 0x2000#32 [(8#5, 0xffff#32)]) 0x3c088000#32) =
      some (0x80000000#32, 0x2004#32) := by decide

theorem test_add_mixed_signs :
    after (fun t => (t.reg 6#5, t.pc))
        (ran (start 0x2000#32 [(4#5, 0x7fffffff#32), (5#5, 0x80000000#32)]) 0x00853020#32) =
      some (0xffffffff#32, 0x2004#32) := by decide

theorem test_add_overflow_keeps_the_register :
    after (fun t => (trapOf t, t.reg 4#5))
        (ran (start 0x2000#32 [(4#5, 0x40000000#32)]) 0x00842020#32) =
      some (trapped 12#5 false 0x2000#32, 0x40000000#32) := by decide

theorem test_addu_wraps :
    after (fun t => (t.reg 6#5, t.pc))
        (ran (start 0x2000#32 [(4#5, 0xffffffff#32), (5#5, 0x1#32)]) 0x00853021#32) =
      some (0x0#32, 0x2004#32) := by decide

theorem test_sub_mixed_signs :
    after (fun t => (t.reg 6#5, t.pc))
        (ran (start 0x2000#32 [(4#5, 0xffffffff#32), (5#5, 0x80000000#32)]) 0x00853022#32) =
      some (0x7fffffff#32, 0x2004#32) := by decide

theorem test_sub_overflow_traps :
    after trapOf
        (ran (start 0x2000#32 [(4#5, 0x0#32), (5#5, 0x80000000#32)]) 0x00853022#32) =
      some (trapped 12#5 false 0x2000#32) := by decide

theorem test_subu_wraps :
    after (fun t => (t.reg 6#5, t.pc))
        (ran (start 0x2000#32 [(4#5, 0x80000000#32), (5#5, 0x1#32)]) 0x00853023#32) =
      some (0x7fffffff#32, 0x2004#32) := by decide

theorem test_slt_signed :
    after (fun t => (t.reg 6#5, t.pc))
        (ran (start 0x2000#32 [(4#5, 0xffffffff#32), (5#5, 0x1#32)]) 0x0085302a#32) =
      some (0x1#32, 0x2004#32) := by decide

theorem test_sltu_unsigned :
    after (fun t => (t.reg 6#5, t.pc))
        (ran (start 0x2000#32 [(4#5, 0x7fffffff#32), (5#5, 0x80000000#32)]) 0x0085302b#32) =
      some (0x1#32, 0x2004#32) := by decide

theorem test_and_bits :
    after (fun t => (t.reg 6#5, t.pc))
        (ran (start 0x2000#32 [(4#5, 0xff00ff00#32), (5#5, 0xff00ff0#32)]) 0x00853024#32) =
      some (0xf000f00#32, 0x2004#32) := by decide

theorem test_or_bits :
    after (fun t => (t.reg 6#5, t.pc))
        (ran (start 0x2000#32 [(4#5, 0xff00ff00#32), (5#5, 0xff00ff0#32)]) 0x00853025#32) =
      some (0xfff0fff0#32, 0x2004#32) := by decide

theorem test_xor_bits :
    after (fun t => (t.reg 6#5, t.pc))
        (ran (start 0x2000#32 [(4#5, 0xff00ff00#32), (5#5, 0xff00ff0#32)]) 0x00853026#32) =
      some (0xf0f0f0f0#32, 0x2004#32) := by decide

theorem test_nor_bits :
    after (fun t => (t.reg 6#5, t.pc))
        (ran (start 0x2000#32 [(4#5, 0xff00ff00#32), (5#5, 0xff00ff0#32)]) 0x00853027#32) =
      some (0xf000f#32, 0x2004#32) := by decide

theorem test_sll_by_31 :
    after (fun t => (t.reg 6#5, t.pc))
        (ran (start 0x2000#32 [(5#5, 0x80000001#32)]) 0x000537c0#32) =
      some (0x80000000#32, 0x2004#32) := by decide

theorem test_srl_by_31 :
    after (fun t => (t.reg 6#5, t.pc))
        (ran (start 0x2000#32 [(5#5, 0x80000001#32)]) 0x000537c2#32) =
      some (0x1#32, 0x2004#32) := by decide

theorem test_sra_copies_the_sign :
    after (fun t => (t.reg 6#5, t.pc))
        (ran (start 0x2000#32 [(5#5, 0x80000001#32)]) 0x00053043#32) =
      some (0xc0000000#32, 0x2004#32) := by decide

theorem test_sra_positive :
    after (fun t => (t.reg 6#5, t.pc))
        (ran (start 0x2000#32 [(5#5, 0x7fffffff#32)]) 0x000537c3#32) =
      some (0x0#32, 0x2004#32) := by decide

theorem test_sllv_five_bits_of_rs :
    after (fun t => (t.reg 6#5, t.pc))
        (ran (start 0x2000#32 [(5#5, 0x1#32), (4#5, 0x21#32)]) 0x00853004#32) =
      some (0x2#32, 0x2004#32) := by decide

theorem test_srlv_five_bits_of_rs :
    after (fun t => (t.reg 6#5, t.pc))
        (ran (start 0x2000#32 [(5#5, 0x80000000#32), (4#5, 0x44#32)]) 0x00853006#32) =
      some (0x8000000#32, 0x2004#32) := by decide

theorem test_srav_copies_the_sign :
    after (fun t => (t.reg 6#5, t.pc))
        (ran (start 0x2000#32 [(5#5, 0x80000000#32), (4#5, 0x44#32)]) 0x00853007#32) =
      some (0xf8000000#32, 0x2004#32) := by decide

theorem test_mult_mixed_signs :
    after (fun t => (t.hi, t.lo, t.pc))
        (ran
          { start 0x2000#32 [(4#5, 0x80000000#32), (5#5, 0x7fffffff#32)] with hi := 0x11111111#32, lo := 0x22222222#32 }
          0x00850018#32) =
      some (0xc0000000#32, 0x80000000#32, 0x2004#32) := by decide

theorem test_multu_largest :
    after (fun t => (t.hi, t.lo, t.pc))
        (ran
          { start 0x2000#32 [(4#5, 0xffffffff#32), (5#5, 0xffffffff#32)] with hi := 0x11111111#32, lo := 0x22222222#32 }
          0x00850019#32) =
      some (0xfffffffe#32, 0x1#32, 0x2004#32) := by decide

theorem test_div_negative_dividend :
    after (fun t => (t.hi, t.lo, t.pc))
        (ran
          { start 0x2000#32 [(4#5, 0xfffffff9#32), (5#5, 0x2#32)] with hi := 0x11111111#32, lo := 0x22222222#32 }
          0x0085001a#32) =
      some (0xffffffff#32, 0xfffffffd#32, 0x2004#32) := by decide

theorem test_div_negative_divisor :
    after (fun t => (t.hi, t.lo, t.pc))
        (ran
          { start 0x2000#32 [(4#5, 0x7#32), (5#5, 0xfffffffe#32)] with hi := 0x11111111#32, lo := 0x22222222#32 }
          0x0085001a#32) =
      some (0x1#32, 0xfffffffd#32, 0x2004#32) := by decide

theorem test_divu_unsigned :
    after (fun t => (t.hi, t.lo, t.pc))
        (ran
          { start 0x2000#32 [(4#5, 0x80000000#32), (5#5, 0xffffffff#32)] with hi := 0x11111111#32, lo := 0x22222222#32 }
          0x0085001b#32) =
      some (0x80000000#32, 0x0#32, 0x2004#32) := by decide

theorem test_mfhi_reads_hi :
    after (fun t => (t.reg 6#5, t.pc))
        (ran { start 0x2000#32 [] with hi := 0x11111111#32, lo := 0x22222222#32 } 0x00003010#32) =
      some (0x11111111#32, 0x2004#32) := by decide

theorem test_mflo_reads_lo :
    after (fun t => (t.reg 6#5, t.pc))
        (ran { start 0x2000#32 [] with hi := 0x11111111#32, lo := 0x22222222#32 } 0x00003012#32) =
      some (0x22222222#32, 0x2004#32) := by decide

theorem test_mthi_writes_hi :
    after (fun t => (t.hi, t.pc))
        (ran { start 0x2000#32 [(4#5, 0xcafef00d#32)] with hi := 0x11111111#32, lo := 0x22222222#32 } 0x00800011#32) =
      some (0xcafef00d#32, 0x2004#32) := by decide

theorem test_mtlo_writes_lo :
    after (fun t => (t.lo, t.pc))
        (ran { start 0x2000#32 [(4#5, 0xcafef00d#32)] with hi := 0x11111111#32, lo := 0x22222222#32 } 0x00800013#32) =
      some (0xcafef00d#32, 0x2004#32) := by decide

theorem test_j_region_of_the_delay_slot :
    after flowOf
        (ran (start 0x8ffffffc#32 []) 0x08000000#32) =
      some (0x90000000#32, 0x90000000#32, true) := by decide

theorem test_jal_links :
    after (fun t => (t.reg 31#5, flowOf t))
        (ran { start 0x80000100#32 [] with status := Status.ofWord 0x2#32 } 0x0e000040#32) =
      some (0x80000108#32, (0x80000104#32, 0x88000100#32, true)) := by decide

theorem test_jr_misaligned_target_raises_nothing :
    after flowOf
        (ran (start 0x2000#32 [(9#5, 0x80004002#32)]) 0x01200008#32) =
      some (0x2004#32, 0x80004002#32, true) := by decide

theorem test_jalr_same_register :
    after (fun t => (t.reg 9#5, flowOf t))
        (ran (start 0x2000#32 [(9#5, 0x80004000#32)]) 0x01204809#32) =
      some (0x2008#32, (0x2004#32, 0x80004000#32, true)) := by decide

theorem test_beq_farthest_back :
    after flowOf (ran (start 0x2000#32 []) 0x10008000#32) = some (0x2004#32, 0xfffe2004#32, true) := by decide

theorem test_beq_not_taken :
    after flowOf
        (ran (start 0x2000#32 [(4#5, 0x7#32), (5#5, 0x8#32)]) 0x10850003#32) =
      some (0x2004#32, 0x2008#32, true) := by decide

theorem test_bne_taken :
    after flowOf
        (ran (start 0x2000#32 [(4#5, 0x7#32), (5#5, 0x8#32)]) 0x14850003#32) =
      some (0x2004#32, 0x2010#32, true) := by decide

theorem test_blez_zero :
    after flowOf
        (ran (start 0x2000#32 [(4#5, 0x0#32)]) 0x18800004#32) =
      some (0x2004#32, 0x2014#32, true) := by decide

theorem test_blez_positive :
    after flowOf
        (ran (start 0x2000#32 [(4#5, 0x7fffffff#32)]) 0x18800004#32) =
      some (0x2004#32, 0x2008#32, true) := by decide

theorem test_bgtz_zero :
    after flowOf
        (ran (start 0x2000#32 [(4#5, 0x0#32)]) 0x1c800004#32) =
      some (0x2004#32, 0x2008#32, true) := by decide

theorem test_bgtz_positive :
    after flowOf
        (ran (start 0x2000#32 [(4#5, 0x7fffffff#32)]) 0x1c800004#32) =
      some (0x2004#32, 0x2014#32, true) := by decide

theorem test_bltz_zero :
    after flowOf
        (ran (start 0x2000#32 [(4#5, 0x0#32)]) 0x04800004#32) =
      some (0x2004#32, 0x2008#32, true) := by decide

theorem test_bltz_most_negative :
    after flowOf
        (ran (start 0x2000#32 [(4#5, 0x80000000#32)]) 0x04800004#32) =
      some (0x2004#32, 0x2014#32, true) := by decide

theorem test_bgez_zero :
    after flowOf
        (ran (start 0x2000#32 [(4#5, 0x0#32)]) 0x04810004#32) =
      some (0x2004#32, 0x2014#32, true) := by decide

theorem test_bgez_most_negative :
    after flowOf
        (ran (start 0x2000#32 [(4#5, 0x80000000#32)]) 0x04810004#32) =
      some (0x2004#32, 0x2008#32, true) := by decide

theorem test_beql_annuls :
    after flowOf
        (ran (start 0x2000#32 [(4#5, 0x7#32), (5#5, 0x8#32)]) 0x50850003#32) =
      some (0x2008#32, 0x200c#32, false) := by decide

theorem test_bnel_taken :
    after flowOf
        (ran (start 0x2000#32 [(4#5, 0x7#32), (5#5, 0x8#32)]) 0x5485fffe#32) =
      some (0x2004#32, 0x1ffc#32, true) := by decide

theorem test_blezl_zero :
    after flowOf
        (ran (start 0x2000#32 [(4#5, 0x0#32)]) 0x58800004#32) =
      some (0x2004#32, 0x2014#32, true) := by decide

theorem test_blezl_annuls :
    after flowOf
        (ran (start 0x2000#32 [(4#5, 0x5#32)]) 0x58800004#32) =
      some (0x2008#32, 0x200c#32, false) := by decide

theorem test_bgtzl_zero_annuls :
    after flowOf
        (ran (start 0x2000#32 [(4#5, 0x0#32)]) 0x5c800004#32) =
      some (0x2008#32, 0x200c#32, false) := by decide

theorem test_bgtzl_taken :
    after flowOf
        (ran (start 0x2000#32 [(4#5, 0x5#32)]) 0x5c800004#32) =
      some (0x2004#32, 0x2014#32, true) := by decide

theorem test_bltzl_taken :
    after flowOf
        (ran (start 0x2000#32 [(4#5, 0xfffffffb#32)]) 0x04820004#32) =
      some (0x2004#32, 0x2014#32, true) := by decide

theorem test_bltzl_zero_annuls :
    after flowOf
        (ran (start 0x2000#32 [(4#5, 0x0#32)]) 0x04820004#32) =
      some (0x2008#32, 0x200c#32, false) := by decide

theorem test_bgezl_annuls :
    after flowOf
        (ran (start 0x2000#32 [(4#5, 0xfffffffb#32)]) 0x04830004#32) =
      some (0x2008#32, 0x200c#32, false) := by decide

theorem test_bgezl_zero :
    after flowOf
        (ran (start 0x2000#32 [(4#5, 0x0#32)]) 0x04830004#32) =
      some (0x2004#32, 0x2014#32, true) := by decide

theorem test_bltzal_links_when_not_taken :
    after (fun t => (t.reg 31#5, flowOf t))
        (ran (start 0x2000#32 [(4#5, 0x0#32), (31#5, 0x11111111#32)]) 0x04900004#32) =
      some (0x2008#32, (0x2004#32, 0x2008#32, true)) := by decide

theorem test_bltzal_tests_the_old_r31 :
    after (fun t => (t.reg 31#5, flowOf t))
        (ran (start 0x2000#32 [(31#5, 0xffffffff#32)]) 0x07f00004#32) =
      some (0x2008#32, (0x2004#32, 0x2014#32, true)) := by decide

theorem test_bgezal_zero :
    after (fun t => (t.reg 31#5, flowOf t))
        (ran (start 0x2000#32 [(4#5, 0x0#32), (31#5, 0x11111111#32)]) 0x04910004#32) =
      some (0x2008#32, (0x2004#32, 0x2014#32, true)) := by decide

theorem test_bgezal_tests_the_old_r31 :
    after (fun t => (t.reg 31#5, flowOf t))
        (ran (start 0x2000#32 [(31#5, 0xffffffff#32)]) 0x07f10004#32) =
      some (0x2008#32, (0x2004#32, 0x2008#32, true)) := by decide

theorem test_bltzall_taken :
    after (fun t => (t.reg 31#5, flowOf t))
        (ran (start 0x2000#32 [(4#5, 0xfffffffb#32), (31#5, 0x11111111#32)]) 0x04920004#32) =
      some (0x2008#32, (0x2004#32, 0x2014#32, true)) := by decide

theorem test_bltzall_links_when_annulled :
    after (fun t => (t.reg 31#5, flowOf t))
        (ran (start 0x2000#32 [(4#5, 0x0#32), (31#5, 0x11111111#32)]) 0x04920004#32) =
      some (0x2008#32, (0x2008#32, 0x200c#32, false)) := by decide

theorem test_bgezall_links_when_annulled :
    after (fun t => (t.reg 31#5, flowOf t))
        (ran (start 0x2000#32 [(4#5, 0xfffffffb#32), (31#5, 0x11111111#32)]) 0x04930004#32) =
      some (0x2008#32, (0x2008#32, 0x200c#32, false)) := by decide

theorem test_bgezall_zero :
    after (fun t => (t.reg 31#5, flowOf t))
        (ran (start 0x2000#32 [(4#5, 0x0#32), (31#5, 0x11111111#32)]) 0x04930004#32) =
      some (0x2008#32, (0x2004#32, 0x2014#32, true)) := by decide

theorem test_mfc0_tohost :
    after (fun t => (t.reg 8#5, t.pc))
        (ran { start 0x2000#32 [] with tohost := 0x1#8 } 0x4008a800#32) =
      some (0x1#32, 0x2004#32) := by decide

theorem test_mfc0_user_mode_traps :
    after (fun t => (trapOf t, t.cause.ce))
        (ran { start 0x80002000#32 [] with status := Status.ofWord 0x2#32 } 0x40087000#32) =
      some (trapped 11#5 false 0x80002000#32, 0#2) := by decide

theorem test_mtc0_status_keeps_nine_bits :
    after (fun t => (t.status, t.pc))
        (ran (start 0x2000#32 [(4#5, 0xffffffff#32)]) 0x40846000#32) =
      some (Status.ofWord 0x1000c03f#32, 0x2004#32) := by decide

theorem test_mtc0_compare_clears_the_flag :
    after (fun t => (t.cause.ip7, t.compare, t.pc))
        (ran { start 0x2000#32 [(4#5, 0x1000#32)] with cause := pending true false, compare := 0x0#32 } 0x40845800#32) =
      some (false, 0x1000#32, 0x2004#32) := by decide

theorem test_rfe_pops :
    after (fun t => (t.status, t.pc))
        (ran { start 0x2000#32 [] with status := Status.ofWord 0x34#32 } 0x42000010#32) =
      some (Status.ofWord 0x3d#32, 0x2004#32) := by decide

theorem test_rfe_user_mode_traps :
    after (fun t => (trapOf t, t.cause.ce))
        (ran { start 0x80002000#32 [] with status := Status.ofWord 0x2#32 } 0x42000010#32) =
      some (trapped 11#5 false 0x80002000#32, 0#2) := by decide

theorem test_icinv_user_mode_traps :
    after (fun t => (trapOf t, t.cause.ce))
        (ran { start 0x80002000#32 [] with status := Status.ofWord 0x2#32 } 0x42000014#32) =
      some (trapped 11#5 false 0x80002000#32, 0#2) := by decide

theorem test_syscall_in_a_delay_slot :
    after trapOf
        (ran
          { start 0x80002004#32 [] with npc := 0x80003000#32, ds := true, status := Status.ofWord 0x3#32 }
          0x0000000c#32) =
      some (trapped 8#5 true 0x80002000#32) := by decide

theorem test_break_code_bits :
    after trapOf (ran (start 0x2000#32 []) 0x000001cd#32) = some (trapped 9#5 false 0x2000#32) := by decide

theorem test_sync_reserved :
    after trapOf (ran (start 0x2000#32 []) 0x0000000f#32) = some (trapped 10#5 false 0x2000#32) := by decide

theorem test_coprocessor_1_unusable :
    after (fun t => (trapOf t, t.cause.ce)) (ran (start 0x2000#32 []) 0xf4000000#32) =
      some (trapped 11#5 false 0x2000#32, 1#2) := by decide

theorem test_coprocessor_2_unusable :
    after (fun t => (trapOf t, t.cause.ce)) (ran (start 0x2000#32 []) 0xe8000000#32) =
      some (trapped 11#5 false 0x2000#32, 2#2) := by decide

theorem test_coprocessor_3_unusable :
    after (fun t => (trapOf t, t.cause.ce)) (ran (start 0x2000#32 []) 0xffffffff#32) =
      some (trapped 11#5 false 0x2000#32, 3#2) := by decide

/-! ### The instruction cycle (spec/95_test_vectors.md Parts 3.13 to 3.16) -/

/-- A reserved word raises RI. -/
theorem test_reserved_word :
    after trapOf (ran (start 0x2000#32 []) 0x88000000#32) = some (trapped 10#5 false 0x2000#32) := by decide

/-- What stays without a meaning is refused by name. -/
theorem test_refusals :
    refusal (ran (start 0x2000#32 []) 0x3c280001#32) = some .shouldBeZero ∧
      refusal (ran (start 0x2000#32 []) 0x42000018#32) = some .illegalCop0 ∧
      refusal (ran { start 0x2004#32 [] with ds := true } 0x08000500#32) = some .branchInDelaySlot := by decide

/-- SBZ_POLICY ignore and ri on LUI with rs 1. -/
theorem test_should_be_zero_policies :
    after (fun t => t.reg 8#5)
        (ran { start 0x2000#32 [] with params := { defaultParams with sbz := .ignore } } 0x3c280001#32) =
      some 0x10000#32 ∧
    after trapOf (ran { start 0x2000#32 [] with params := { defaultParams with sbz := .ri } } 0x3c280001#32) =
      some (trapped 10#5 false 0x2000#32) := by decide

/-- The fetch check: a misaligned pc, and a user fetch from kseg; the lowest user address is allowed. -/
theorem test_fetch_check :
    after trapOf (ran (start 0x2002#32 []) 0x24080001#32) = some (trapped 6#5 false 0x2002#32) ∧
      after trapOf (ran { start 0x7ffffffc#32 [] with status := Status.ofWord 0x2#32 } 0xffffffff#32) =
        some (trapped 6#5 false 0x7ffffffc#32) ∧
      after flowOf (ran { start 0x80000000#32 [] with status := Status.ofWord 0x2#32 } 0x24080001#32) =
        some (0x80000004#32, 0x80000008#32, false) := by decide

/-- The host interrupt goes before the timer's, and neither is taken when masked or disabled. -/
theorem test_interrupts :
    after trapOf
        (ran { start 0x2000#32 [] with status := Status.ofWord 0xc001#32, cause := pending true true } 0x24080001#32) =
      some (trapped 0#5 false 0x2000#32) ∧
    after trapOf
        (ran { start 0x2000#32 [] with status := Status.ofWord 0x8001#32, cause := pending true true } 0x24080001#32) =
      some (trapped 2#5 false 0x2000#32) ∧
    after (fun t => t.reg 8#5)
        (ran { start 0x2000#32 [] with status := Status.ofWord 0xc000#32, cause := pending true true } 0x24080001#32) =
      some 1#32 := by decide

/-- `count` meets `compare` in the step's own first stage: the timer interrupt is taken in the same step. -/
theorem test_timer :
    after trapOf
        (ran { start 0x2000#32 [] with status := Status.ofWord 0xc001#32, count := 0xfff#32, compare := 0x1000#32 }
          0x24080001#32) =
      some (trapped 2#5 false 0x2000#32) := by decide

/-- Trap entry pushes the KU/IE stack (the last row of Part 3.16). -/
theorem test_trap_entry_pushes :
    after (fun t => t.status)
        (ran { start 0x2000#32 [] with status := Status.ofWord 0xc02d#32, cause := pending false true } 0x24080001#32) =
      some (Status.ofWord 0xc034#32) := by decide

/-- Under refuse-stale a fetch from a word stored to since the last ICINV is refused; ICINV clears the marks. -/
theorem test_stale_fetch :
    refusal (step
        { start 0x2000#32 [] with marks := [(0x800, 0#32)], params := { defaultParams with icache := .refuseStale } }) =
      some .staleFetch ∧
      after (fun t => t.marks) (ran { start 0x2000#32 [] with marks := [(0x1000, 0#32)] } 0x42000014#32) =
        some [] := by decide

/-- Right after reset the machine runs the word placed at the reset vector. -/
theorem test_first_step :
    after flowOf (step (State.reset.withFetchWord 32 0x24080001)) = some (0x1004#32, 0x1008#32, false) := by decide

/-- With nothing placed, the first word is the all-zero one: SLL r0,r0,0. -/
theorem test_empty_memory_runs :
    after flowOf (step State.reset) = some (0x1004#32, 0x1008#32, false) := by decide

/-! ### Witnesses

For each obligation with hypotheses, a concrete state and operands that meet them, at the ends of the ranges its clauses
speak of. `goes` is the hypothesis that a step or an instruction answers a next state. -/

theorem next_of_goes {r : Result} (h : goes r = true) : ∃ t, r = .next t := by
  cases r <;> simp_all [goes, after]

/-- A state in user mode, with memory and a mark. -/
def user : State :=
  { start 0x80002000#32 [(4#5, 0x80004000#32), (5#5, 0xaabbccdd#32)] with
    status := Status.ofWord 0x2#32, mem := loadBytes, marks := [(0x20001000, 0x8091a2b3#32)] }

/-- The same in kernel mode. -/
def kernel : State := { user with status := Status.ofWord 0x0#32 }

theorem witness_StateInv : StateInv user := ⟨by decide, by decide, by decide, by decide, by decide, nofun⟩

theorem witness_StateInv_kernel : StateInv kernel := ⟨by decide, by decide, by decide, by decide, by decide, nofun⟩

/-- A delay slot, where the next instruction need not be at pc + 4. -/
theorem witness_StateInv_delay_slot : StateInv { user with npc := 0x80003000#32, ds := true } :=
  ⟨by decide, by decide, by decide, by decide, by decide, nofun⟩

theorem witness_EncodeOfDecode : decode 0xafbffffc#32 = .instr (.sw 31#5 29#5 0xfffc#16) := by decide

theorem witness_DecodePartition :
    (∃ i, decode 0x00053040#32 = .instr i) ∧ (∃ i, decode 0x3c280001#32 = .shouldBeZero i) ∧
      ReservedCell 0x04140000#32 ∧ IllegalCop0Cell 0x42000018#32 :=
  ⟨⟨.sll 6#5 5#5 1#5, by decide⟩, ⟨.lui 8#5 1#16, by decide⟩, by unfold ReservedCell; decide,
    by unfold IllegalCop0Cell; decide⟩

theorem witness_ShouldBeZeroOperands : decode 0x00853060#32 = .shouldBeZero (.add 6#5 4#5 5#5) := by decide

/-- The ends of each range of R120, and SYNC. -/
theorem witness_ReservedWordsRaiseRI :
    ReservedCell 0x60000000#32 ∧ ReservedCell 0x7c000000#32 ∧ ReservedCell 0xb0000000#32 ∧ ReservedCell 0xbc000000#32 ∧
      ReservedCell 0x00000014#32 ∧ ReservedCell 0x00000017#32 ∧ ReservedCell 0x00000030#32 ∧
      ReservedCell 0x0000003f#32 ∧ ReservedCell 0x04040000#32 ∧ ReservedCell 0x040f0000#32 ∧
      ReservedCell 0x04140000#32 ∧ ReservedCell 0x041f0000#32 ∧ SyncCell 0x0000000f#32 := by
  simp [ReservedCell, SyncCell]

theorem witness_CoprocessorUnusableWords :
    (0x42000018#32 : Word).toNat / 2 ^ 26 = 0b010000 ∧ user.status.kuC = true ∧ user.status.cu0 = false ∧
      CoprocessorCell 0x44000000#32 1#2 ∧ CoprocessorCell 0xfbffffff#32 2#2 ∧ CoprocessorCell 0xffffffff#32 3#2 := by
  unfold CoprocessorCell; decide

/-- RfePops, IcinvFlushes, Mfc0Results and Mtc0Results where CP0 may be used. -/
theorem witness_Cop0Allowed : Cop0Allowed kernel ∧ Cop0Allowed { user with status := Status.ofWord 0x10000002#32 } := by
  unfold Cop0Allowed; decide

/-- The same where it may not. -/
theorem witness_not_Cop0Allowed : ¬Cop0Allowed user := by unfold Cop0Allowed; decide

/-- The ends of each range of R121. -/
theorem witness_IllegalCop0WordsRefused :
    Cop0Allowed kernel ∧ IllegalCop0Cell 0x40200000#32 ∧ IllegalCop0Cell 0x40600000#32 ∧ IllegalCop0Cell 0x40a00000#32 ∧
      IllegalCop0Cell 0x41e00000#32 ∧ IllegalCop0Cell 0x42000000#32 ∧ IllegalCop0Cell 0x43e0003f#32 := by
  unfold Cop0Allowed IllegalCop0Cell; decide

/-- A word outside COP0 and one of COP0, under each of the three policies. -/
theorem witness_ShouldBeZeroPolicy :
    decode 0x3c280001#32 = .shouldBeZero (.lui 8#5 1#16) ∧ (0x3c280001#32 : Word).toNat / 2 ^ 26 ≠ 0b010000 ∧
      decode 0x42200010#32 = .shouldBeZero .rfe ∧ kernel.status.kuC = false ∧
      kernel.params.sbz = .refuse ∧ { defaultParams with sbz := .ignore }.sbz = .ignore ∧
      { defaultParams with sbz := .ri }.sbz = .ri := by decide

/-- A user state whose next word is ADDIU r8,r0,1. -/
def ready : State := user.withFetchWord 32 0x24080001

theorem witness_StepRunsTheDecodedInstruction :
    let u := ready.tick ready.input
    ready.input.reset = none ∧ u.dueInterrupt = none ∧ u.pc.toNat % 4 = 0 ∧
      (u.status.kuC = true → 2 ^ 31 ≤ u.pc.toNat) ∧ Marks.lookup u.marks (u.wordNo u.pc) = none ∧
      decodeBytes [u.readByte u.pc, u.readByte (u.pc + 1#32), u.readByte (u.pc + 2#32), u.readByte (u.pc + 3#32)] =
        some (.instr (.addiu 8#5 0#5 1#16)) := by decide

/-- An input of one cycle in which an interrupt that begins to wait is not deferred. -/
def quiet : StepInput := ⟨0, [], none, 0⟩

/-- A user state with both interrupts pending and enabled, two steps of which the outside would defer them for five
boundaries, where INT_LATENCY is the given bound. -/
def impatient (intLatency : Nat) : State :=
  { ready with
    status := Status.ofWord 0xc003#32, cause := pending true true
    params := { defaultParams with intLatency := some intLatency }
    inputs := [⟨0, [], none, 5⟩, ⟨0, [], none, 5⟩] }

/-- INT_LATENCY 0 takes the interrupt at the first boundary, INT_LATENCY 1 at the second, after one instruction. -/
theorem test_int_latency :
    after trapOf (step (impatient 0)) = some (trapped 0#5 false 0x80002000#32) ∧
      after flowOf (step (impatient 1)) = some (0x80002004#32, 0x80002008#32, false) ∧
      after trapOf (core.run 2 (impatient 1)) = some (trapped 0#5 false 0x80002004#32) := by decide

/-- A timer interrupt with no host interrupt, and an interrupt waiting with INT_LATENCY 1 over two steps. -/
theorem witness_InterruptTaken :
    let tint := { impatient 0 with cause := pending true false }
    quiet.reset = none ∧ InterruptPending (tint.tick quiet) .tint ∧ (tint.tick quiet).waiting = some ⟨.tint, 0⟩ ∧
      InterruptPending ((impatient 1).tick quiet) .hint ∧ StateInv (impatient 1) ∧
      ∃ t, core.run 2 (impatient 1) = .next t :=
  ⟨rfl, by unfold InterruptPending; decide, by decide, by unfold InterruptPending; decide,
    ⟨by decide, by decide, by decide, by decide, by decide, nofun⟩, next_of_goes (by decide)⟩

/-- Disabled; begins to wait at the draw, and at the bound; waited at the boundary before. -/
theorem witness_InterruptNotTaken :
    (∀ e, ¬InterruptPending ({ impatient 1 with status := Status.ofWord 0xc002#32 }.tick quiet) e) ∧
      InterruptPending ((impatient 7).tick (impatient 7).input) .hint ∧
      ((impatient 7).tick (impatient 7).input).waiting = some ⟨.hint, 5⟩ ∧
      ((impatient 1).tick (impatient 1).input).waiting = some ⟨.hint, 1⟩ ∧
      ({ impatient 7 with waiting := some ⟨.hint, 3⟩ }.tick quiet).waiting = some ⟨.hint, 2⟩ :=
  ⟨fun _ h => absurd h.1 (by decide), by unfold InterruptPending; decide, by decide, by decide, by decide⟩

/-- A pc off a boundary, the highest kseg address and the lowest kuseg address in user mode. -/
theorem witness_FetchAddressError :
    { user with pc := 0x80002001#32 }.pc.toNat % 4 ≠ 0 ∧
      (user.status.kuC = true ∧ { user with pc := 0x7ffffffc#32 }.pc.toNat < 2 ^ 31) ∧
      { user with pc := 0x80000000#32 }.pc.toNat % 4 = 0 ∧
      2 ^ 31 ≤ { user with pc := 0x80000000#32 }.pc.toNat := by decide

/-- A state about to fetch from a word stored to since the last ICINV. -/
def stale : State := { user with marks := [(0x20000800, 0x24080001#32)] }

theorem witness_StaleFetch :
    stale.fetchFaults = false ∧ Marks.lookup stale.marks (stale.wordNo stale.pc) = some 0x24080001#32 ∧
      stale.params.icache = .eitherWord ∧
      { stale.params with icache := .refuseStale }.icache = .refuseStale := by decide

theorem witness_ExternalReset :
    { quiet with reset := some defaultResetState }.reset = some defaultResetState := by decide

theorem witness_ReturnIdiom : (26#5 : RegNo) ≠ 0#5 := by decide

/-- The ends of the two segments, and the boundaries. -/
theorem witness_DataAllowed :
    DataAllowed kernel 4 0x00000000#32 ∧ DataAllowed kernel 4 0xfffffffc#32 ∧ DataAllowed user 4 0x80000000#32 ∧
      DataAllowed user 2 0xfffffffe#32 ∧ DataAllowed user 1 0xffffffff#32 ∧ DataAllowed user 1 0x80000000#32 := by
  unfold DataAllowed; decide

theorem witness_not_DataAllowed :
    ¬DataAllowed user 1 0x7fffffff#32 ∧ ¬DataAllowed user 4 0x7ffffffc#32 ∧ ¬DataAllowed kernel 4 0x80004002#32 ∧
      ¬DataAllowed kernel 2 0x80004001#32 := by
  unfold DataAllowed; decide

/-- Loads and StoreResults: a base register and an offset that give the ends above. -/
theorem witness_Loads : user.reg 4#5 + (0xc000#16 : BitVec 16).signExtend 32 = 0x80000000#32 := by decide

theorem witness_StoreResults :
    StateInv user ∧ DataAllowed user 4 (user.reg 4#5 + (4#16 : BitVec 16).signExtend 32) :=
  ⟨witness_StateInv, by unfold DataAllowed; decide⟩

/-- Every byte of an aligned word is the last to reach its physical byte. -/
theorem witness_LastToReach : LastToReach user 0x80004000#32 4 0 := by
  intro j _ hj
  interval_cases j <;> decide

theorem witness_StoresMarkTheirWord : StateInv user ∧ user.wordNo 0x80004004#32 ≠ user.wordNo 0x80004000#32 :=
  ⟨witness_StateInv, by decide⟩

theorem witness_MixedWidthAccess :
    StateInv user ∧ 2 ≤ user.params.paBits ∧ DataAllowed user 4 (user.reg 4#5) ∧ (8#5 : RegNo) ≠ 0#5 :=
  ⟨witness_StateInv, by decide, by unfold DataAllowed; decide, by decide⟩

/-- Effective addresses off each boundary, and a byte address the mode may touch. -/
theorem witness_Alignment :
    (user.reg 4#5 + (2#16 : BitVec 16).signExtend 32).toNat % 4 ≠ 0 ∧
      (user.reg 4#5 + (1#16 : BitVec 16).signExtend 32).toNat % 2 ≠ 0 ∧
      (user.status.kuC = true → 2 ^ 31 ≤ (user.reg 4#5 + (0xc000#16 : BitVec 16).signExtend 32).toNat) ∧
      { user with pc := 0x80002002#32 }.pc.toNat % 4 ≠ 0 := by decide

/-- Sums and differences at the two ends of the signed range, and just past them. -/
theorem witness_OverflowTraps :
    (0x7ffffffe#32 : Word).toInt + (1#32 : Word).toInt = 2 ^ 31 - 1 ∧
      (0x7fffffff#32 : Word).toInt + (1#16 : BitVec 16).toInt = 2 ^ 31 ∧
      (0x80000001#32 : Word).toInt - (1#32 : Word).toInt = -2 ^ 31 ∧
      (0x80000000#32 : Word).toInt + (0xffff#16 : BitVec 16).toInt = -2 ^ 31 - 1 := by decide

/-- A state with the given dividend in r4 and divisor in r5. -/
def dividing (n d : Word) : State := start 0x2000#32 [(4#5, n), (5#5, d)]

theorem witness_DivideResults :
    (dividing 0x80000000#32 1#32).reg 5#5 ≠ 0#32 ∧
      ¬(((dividing 0x80000000#32 1#32).reg 4#5).toInt = -2 ^ 31 ∧ ((dividing 0x80000000#32 1#32).reg 5#5).toInt = -1) ∧
      ¬(((dividing 0x80000001#32 0xffffffff#32).reg 4#5).toInt = -2 ^ 31 ∧
        ((dividing 0x80000001#32 0xffffffff#32).reg 5#5).toInt = -1) := by decide

theorem witness_DivideOpenCorners :
    (dividing 5#32 0#32).reg 5#5 = 0#32 ∧ ((dividing 0x80000000#32 0xffffffff#32).reg 4#5).toInt = -2 ^ 31 ∧
      ((dividing 0x80000000#32 0xffffffff#32).reg 5#5).toInt = -1 := by decide

/-- Outside a delay slot (Jumps, Branches, LikelyBranches, LinkBranches), with a condition that holds and one that does
not at the boundary between them. -/
theorem witness_Transfers :
    user.ds = false ∧ (0#32 : Word).toInt ≤ 0 ∧ ¬(1#32 : Word).toInt ≤ 0 ∧ (0xffffffff#32 : Word).toInt < 0 ∧
      ¬(0#32 : Word).toInt < 0 := by decide

theorem witness_TransferInDelaySlot : { user with ds := true }.ds = true := by decide

/-- `count` and `compare` meeting and not meeting the value written. -/
theorem witness_Mtc0Results : kernel.reg 4#5 ≠ kernel.count ∧ kernel.reg 4#5 ≠ kernel.compare := by decide

theorem witness_StatusReadsBack :
    Cop0Allowed kernel ∧ (kernel.reg 4#5).getLsbD 1 = false ∧ (0x1000c03f#32 : Word).getLsbD 28 = true := by
  unfold Cop0Allowed; decide

/-- StepKeepsInv and StepKeepsParameters: steps that go, from states that satisfy the invariant. -/
theorem witness_StepKeepsInv : StateInv user ∧ ∃ t, step user = .next t :=
  ⟨witness_StateInv, next_of_goes (by decide)⟩

/-- PcStaysAligned: an aligned state, and one whose JR has a misaligned register. -/
theorem witness_PcStaysAligned :
    ready.pc.toNat % 4 = 0 ∧ ready.npc.toNat % 4 = 0 ∧ goes (step ready) = true ∧
      goes (ran (start 0x2000#32 [(9#5, 0x80004002#32)]) 0x01200008#32) = true := by decide

/-- ModeChanges and ExceptionRegistersChange: a step of each kind. -/
theorem witness_ModeChanges :
    goes (step { kernel with inputs := [{ quiet with reset := some defaultResetState }] }) = true ∧
      goes (step (user.withFetchWord 32 0x0000000c)) = true ∧ goes (step (kernel.withFetchWord 32 0x42000010)) = true ∧
      goes (step (kernel.withFetchWord 32 0x40846000)) = true ∧ goes (step ready) = true := by decide

/-- TimerFlagCleared: a set flag, no reset, and a step that goes. -/
theorem witness_TimerFlagCleared :
    let s := { kernel with cause := pending true false }.withFetchWord 32 0x40845800
    goes (step s) = true ∧ s.input.reset = none ∧ s.cause.ip7 = true := by decide

/-- UserModeConfined: a store that completes, and an instruction that traps. -/
theorem witness_UserModeConfined :
    StateInv user ∧ user.status.kuC = true ∧ user.status.cu0 = false ∧
      (∃ t, exec (.sw 5#5 4#5 4#16) user = .next t) ∧ ∃ t, exec (.mfc0 8#5 12#5) user = .next t :=
  ⟨witness_StateInv, by decide, by decide, next_of_goes (by decide), next_of_goes (by decide)⟩

/-- EveryInstructionRuns: an instruction that is no jump or branch, and one that is, in a delay slot. -/
theorem witness_EveryInstructionRuns :
    user.ds = false ∧ { user with ds := true }.ds = true ∧ ¬IsTransfer (.addiu 8#5 0#5 1#16) ∧
      IsTransfer (.bgezall 4#5 4#16) :=
  ⟨by decide, by decide, by simp [IsTransfer, transferForms], ⟨0#5, 4#5, 0#5, 4#16, 0#26, by decide⟩⟩

/-- User mode with other kseg bytes, another count and another epc. -/
def otherSecret : State := { user with mem := lowBytes ++ loadBytes, count := 7#32, epc := 0x1234#32 }

theorem witness_UserModeSeesNoSecret :
    StateInv user ∧ StateInv otherSecret ∧ UserView user otherSecret ∧ user.status.kuC = true ∧
      user.status.cu0 = false ∧ otherSecret.status.kuC = true ∧ otherSecret.status.cu0 = false ∧
      user.readByte 0#32 ≠ otherSecret.readByte 0#32 := by
  refine ⟨witness_StateInv, ⟨by decide, by decide, by decide, by decide, by decide, nofun⟩,
    ⟨fun _ => rfl, ⟨rfl, rfl⟩, ⟨rfl, rfl, rfl⟩, fun a h => ?_, rfl, rfl⟩, by decide, by decide, by decide, by decide,
    by decide⟩
  have phys : user.phys a = a.toNat := Nat.mod_eq_of_lt a.isLt
  have far : ∀ k < 4, k ≠ user.phys a := by omega
  show Memory.read (lowBytes ++ loadBytes) (user.phys a) = Memory.read loadBytes (user.phys a)
  simp [lowBytes, Memory.read, far]

end Sys2Proof.Tests
end

section
/-! Proofs of the obligations of spec/10_state.md: RFE and the KU/IE stack. -/

namespace Sys2Proof.Machine

/-! ### Where CP0 may be used -/

/-- The model's usability test decides R32. -/
theorem State.cop0Usable_iff (s : State) : s.cop0Usable = true ↔ Cop0Allowed s := by
  simp [State.cop0Usable, Cop0Allowed]

/-- Where CP0 may be used, the usability test of R270 lets the instruction's own meaning through. -/
theorem State.withCop0_of_allowed {s : State} (allowed : Cop0Allowed s) (k : Result) : s.withCop0 k = k :=
  if_pos (s.cop0Usable_iff.mpr allowed)

/-! ### The KU/IE stack after a pop (R44) -/

@[simp] theorem Status.pop_kuC (st : Status) : st.pop.kuC = st.kuP := rfl
@[simp] theorem Status.pop_ieC (st : Status) : st.pop.ieC = st.ieP := rfl
@[simp] theorem Status.pop_kuP (st : Status) : st.pop.kuP = st.kuO := rfl
@[simp] theorem Status.pop_ieP (st : Status) : st.pop.ieP = st.ieO := rfl
@[simp] theorem Status.pop_kuO (st : Status) : st.pop.kuO = st.kuO := rfl
@[simp] theorem Status.pop_ieO (st : Status) : st.pop.ieO = st.ieO := rfl
@[simp] theorem Status.pop_cu0 (st : Status) : st.pop.cu0 = st.cu0 := rfl
@[simp] theorem Status.pop_im7 (st : Status) : st.pop.im7 = st.im7 := rfl
@[simp] theorem Status.pop_im6 (st : Status) : st.pop.im6 = st.im6 := rfl

/-! ### RFE -/

theorem exec_rfe (s : State) : exec .rfe s = s.withCop0 (.next s.restoreStatus.advance) := rfl

/-- RFE's next state where CP0 may be used (R273): `status` popped, and on to the next instruction. -/
theorem exec_rfe_of_allowed {s : State} (allowed : Cop0Allowed s) : exec .rfe s = .next s.restoreStatus.advance := by
  rw [exec_rfe, State.withCop0_of_allowed allowed]

/-- The frame of RFE: all but `status` is kept, and execution goes on in order. -/
theorem State.restoreStatus_advance_frame (s : State) :
    let t := s.restoreStatus.advance
    KeepsRegs s t ∧ KeepsHiLo s t ∧ KeepsPlainCp0 s t ∧ t.cause = s.cause ∧ KeepsMemory s t ∧ KeepsOutside s t ∧
      GoesOn s t := by
  simp [KeepsRegs, KeepsHiLo, KeepsPlainCp0, KeepsMemory, KeepsOutside, GoesOn]

/-- Settles O22: where CP0 may be used RFE answers `s.restoreStatus.advance`, whose `status` is the popped one (R44)
and whose other fields are framed. -/
theorem rfePops : Obligations.RfePops := by
  intro s allowed
  have popped : s.restoreStatus.advance.status = s.status.pop := by simp
  refine ⟨s.restoreStatus.advance, exec_rfe_of_allowed allowed, ?_⟩
  rw [popped]
  exact ⟨Status.pop_kuC _, Status.pop_ieC _, Status.pop_kuP _, Status.pop_ieP _, Status.pop_kuO _, Status.pop_ieO _,
    Status.pop_cu0 _, Status.pop_im7 _, Status.pop_im6 _, s.restoreStatus_advance_frame⟩

end Sys2Proof.Machine
end

section
/-! Proofs of the obligations of spec/20_memory.md: the alignment and segment checks of data accesses and the fetch. -/

namespace Sys2Proof.Machine

/-! ### Address bits as divisibility and order (R71, R77) -/

theorem extractLsb'_two_eq_zero_iff (a : Word) : a.extractLsb' 0 2 = 0#2 ↔ a.toNat % 4 = 0 := by
  simp [← BitVec.toNat_inj]

theorem getLsbD_zero_eq_false_iff (a : Word) : a.getLsbD 0 = false ↔ a.toNat % 2 = 0 := by
  rw [← BitVec.testBit_toNat, Nat.testBit_zero, decide_eq_false_iff_not]
  exact Nat.mod_two_ne_one

theorem getLsbD_31_eq_true_iff (a : Word) : a.getLsbD 31 = true ↔ 2 ^ 31 ≤ a.toNat := by
  have top : a.getLsbD 31 = a.msb := (BitVec.msb_eq_getLsbD_last a).symm
  rw [top, BitVec.msb_eq_decide, decide_eq_true_iff]

/-! ### The data check and the fetch check (R78, R79) -/

theorem State.kernelOnly_eq_false_iff (s : State) (a : Word) :
    s.kernelOnly a = false ↔ (s.status.kuC = true → 2 ^ 31 ≤ a.toNat) := by
  rw [← getLsbD_31_eq_true_iff]
  simp [State.kernelOnly]

/-- For the three sizes an instruction accesses, the model's data check passes exactly the allowed accesses. -/
theorem State.dataFaults_eq_false_iff {s : State} {n : Nat} {a : Word} (size : n = 1 ∨ n = 2 ∨ n = 4) :
    s.dataFaults n a = false ↔ DataAllowed s n a := by
  unfold State.dataFaults DataAllowed
  rw [Bool.or_eq_false_iff, s.kernelOnly_eq_false_iff]
  refine and_congr_left' ?_
  obtain rfl | rfl | rfl := size
  · simp [Nat.mod_one]
  · simpa using getLsbD_zero_eq_false_iff a
  · simpa using extractLsb'_two_eq_zero_iff a

theorem State.dataFaults_of_not_allowed {s : State} {n : Nat} {a : Word} (size : n = 1 ∨ n = 2 ∨ n = 4)
    (denied : ¬DataAllowed s n a) : s.dataFaults n a = true :=
  Bool.eq_true_of_not_eq_false fun passes => denied ((State.dataFaults_eq_false_iff size).mp passes)

theorem dataAllowed_one_iff (s : State) (a : Word) :
    DataAllowed s 1 a ↔ (s.status.kuC = true → 2 ^ 31 ≤ a.toNat) := by
  simp [DataAllowed, Nat.mod_one]

theorem not_dataAllowed_of_misaligned {s : State} {n : Nat} {a : Word} (misaligned : a.toNat % n ≠ 0) :
    ¬DataAllowed s n a :=
  fun ⟨aligned, _⟩ => misaligned aligned

/-- The fetch is checked as a word access at `pc` is. -/
theorem State.fetchFaults_eq_dataFaults (s : State) : s.fetchFaults = s.dataFaults 4 s.pc := by
  simp [State.fetchFaults, State.dataFaults]

theorem State.fetchFaults_of_misaligned {s : State} (misaligned : s.pc.toNat % 4 ≠ 0) : s.fetchFaults = true := by
  rw [State.fetchFaults_eq_dataFaults]
  exact State.dataFaults_of_not_allowed (by simp) (not_dataAllowed_of_misaligned misaligned)

theorem State.runInstruction_of_fetchFaults {s : State} (faults : s.fetchFaults = true) :
    s.runInstruction = .next (s.trapEntry .adEF) :=
  if_pos faults

/-! ### Trap entry and completion in the shapes of the claims -/

/-- Trap entry does what R320 says, whatever the exception; `ce` and `bad` are what the exception records whichever
free value is drawn. -/
theorem State.entersTrap_trapEntry (s : State) (e : Exc) {ce : Option (BitVec 2)} {bad : Option Word}
    (records_ce : ∀ z, ce = some z → ∀ free, e.ce free = z)
    (records_bad : ∀ a, bad = some a → ∀ free, e.badVAddr free = a) :
    EntersTrap s (s.trapEntry e) e.code ce bad where
  epc := rfl
  bd := rfl
  excCode := rfl
  coprocessor z recorded := records_ce z recorded _
  badAddress a recorded := records_bad a recorded _
  kuO := rfl
  ieO := rfl
  kuP := rfl
  ieP := rfl
  kuC := rfl
  ieC := rfl
  pc := rfl
  npc := rfl
  ds := rfl
  masks := ⟨rfl, rfl, rfl⟩
  pending := ⟨rfl, rfl⟩
  regs := s.trapEntry_reg e
  hiLo := ⟨rfl, rfl⟩
  timer := ⟨rfl, rfl⟩
  host := ⟨rfl, rfl⟩
  memory := ⟨s.trapEntry_readByte e, rfl⟩
  outside := ⟨rfl, rfl, rfl, rfl⟩

/-- An instruction that answers `s.finish d v` computes `v` into `d`. -/
theorem computes_of_exec_finish {s : State} {i : Instr} {d : RegNo} {v : Word} (run : exec i s = s.finish d v) :
    Computes s i d v := by
  refine ⟨(s.setReg d v).advance, run, ?_, fun r other => ?_, ?_⟩
  · rw [State.advance_reg, State.reg_setReg_self]
  · rw [State.advance_reg, State.reg_setReg_other s v other]
  · simp [KeepsHiLo, KeepsCp0, KeepsPlainCp0, KeepsMemory, KeepsOutside, GoesOn]

theorem State.goesOn_storeBytes_advance (s : State) (a : Word) (bytes : List Byte) :
    GoesOn s (s.storeBytes a bytes).advance := by
  simp [GoesOn]

/-! ### The loads and stores (R140 to R148) -/

theorem exec_lb (s : State) (rt rs : RegNo) (imm : BitVec 16) :
    exec (.lb rt rs imm) s = s.load 1 (fun s ea => signExtByte (s.readByte ea)) rt rs imm := rfl

theorem exec_lh (s : State) (rt rs : RegNo) (imm : BitVec 16) :
    exec (.lh rt rs imm) s = s.load 2 (fun s ea => signExtHalf (s.readHalf ea)) rt rs imm := rfl

theorem exec_lw (s : State) (rt rs : RegNo) (imm : BitVec 16) :
    exec (.lw rt rs imm) s = s.load 4 State.readWord rt rs imm := rfl

theorem exec_lbu (s : State) (rt rs : RegNo) (imm : BitVec 16) :
    exec (.lbu rt rs imm) s = s.load 1 (fun s ea => zeroExtByte (s.readByte ea)) rt rs imm := rfl

theorem exec_lhu (s : State) (rt rs : RegNo) (imm : BitVec 16) :
    exec (.lhu rt rs imm) s = s.load 2 (fun s ea => zeroExtHalf (s.readHalf ea)) rt rs imm := rfl

theorem exec_sb (s : State) (rt rs : RegNo) (imm : BitVec 16) :
    exec (.sb rt rs imm) s = s.store 1 (fun s ea v => s.writeByte ea (lowByte v)) rt rs imm := rfl

theorem exec_sh (s : State) (rt rs : RegNo) (imm : BitVec 16) :
    exec (.sh rt rs imm) s = s.store 2 (fun s ea v => s.writeHalf ea (lowHalf v)) rt rs imm := rfl

theorem exec_sw (s : State) (rt rs : RegNo) (imm : BitVec 16) :
    exec (.sw rt rs imm) s = s.store 4 State.writeWord rt rs imm := rfl

section
variable {s : State} {i : Instr} {n : Nat} {value : State → Word → Word} {write : State → Word → Word → State}
  {rt rs : RegNo} {imm : BitVec 16}

/-- A load whose access is allowed computes the loaded value into its register. -/
theorem computes_of_exec_load (run : exec i s = s.load n value rt rs imm) (size : n = 1 ∨ n = 2 ∨ n = 4)
    (allowed : DataAllowed s n (effectiveAddress (s.reg rs) imm)) :
    Computes s i rt (value s (effectiveAddress (s.reg rs) imm)) := by
  have passes := (State.dataFaults_eq_false_iff size).mpr allowed
  exact computes_of_exec_finish (run.trans (if_neg (Bool.eq_false_iff.mp passes)))

/-- A load whose access is not allowed raises AdEL with its effective address. -/
theorem traps_of_exec_load (run : exec i s = s.load n value rt rs imm) (size : n = 1 ∨ n = 2 ∨ n = 4)
    (denied : ¬DataAllowed s n (effectiveAddress (s.reg rs) imm)) :
    Traps s i 4#5 none (some (effectiveAddress (s.reg rs) imm)) :=
  ⟨_, run.trans (if_pos (State.dataFaults_of_not_allowed size denied)),
    s.entersTrap_trapEntry (.adEL _) nofun fun _ recorded _ => Option.some.inj recorded⟩

/-- A store whose access is allowed writes at its effective address and goes on. -/
theorem exec_store_of_allowed (run : exec i s = s.store n write rt rs imm) (size : n = 1 ∨ n = 2 ∨ n = 4)
    (allowed : DataAllowed s n (effectiveAddress (s.reg rs) imm)) :
    exec i s = .next (write s (effectiveAddress (s.reg rs) imm) (s.reg rt)).advance := by
  have passes := (State.dataFaults_eq_false_iff size).mpr allowed
  exact run.trans (if_neg (Bool.eq_false_iff.mp passes))

/-- A store whose access is not allowed raises AdES with its effective address. -/
theorem traps_of_exec_store (run : exec i s = s.store n write rt rs imm) (size : n = 1 ∨ n = 2 ∨ n = 4)
    (denied : ¬DataAllowed s n (effectiveAddress (s.reg rs) imm)) :
    Traps s i 5#5 none (some (effectiveAddress (s.reg rs) imm)) :=
  ⟨_, run.trans (if_pos (State.dataFaults_of_not_allowed size denied)),
    s.entersTrap_trapEntry (.adES _) nofun fun _ recorded _ => Option.some.inj recorded⟩

end

/-- Settles O31: a misaligned access is not allowed, so its load or store traps; a byte access is allowed wherever the
mode may touch; and the fetch is checked as a word access at `pc`. -/
theorem alignment : Obligations.Alignment := by
  intro s rt rs imm ea
  refine ⟨fun offWord => ?word, fun offHalf => ?half, fun touchable => ?byte, fun offWord => ?fetch⟩
  case word =>
    have denied : ¬DataAllowed s 4 ea := not_dataAllowed_of_misaligned offWord
    exact ⟨traps_of_exec_load (exec_lw ..) (by simp) denied, traps_of_exec_store (exec_sw ..) (by simp) denied⟩
  case half =>
    have denied : ¬DataAllowed s 2 ea := not_dataAllowed_of_misaligned offHalf
    exact ⟨traps_of_exec_load (exec_lh ..) (by simp) denied, traps_of_exec_load (exec_lhu ..) (by simp) denied,
      traps_of_exec_store (exec_sh ..) (by simp) denied⟩
  case byte =>
    have allowed : DataAllowed s 1 ea := (dataAllowed_one_iff s ea).mpr touchable
    exact ⟨⟨_, computes_of_exec_load (exec_lb ..) (by simp) allowed⟩,
      ⟨_, computes_of_exec_load (exec_lbu ..) (by simp) allowed⟩,
      _, exec_store_of_allowed (exec_sb ..) (by simp) allowed, s.goesOn_storeBytes_advance ..⟩
  case fetch =>
    exact ⟨_, State.runInstruction_of_fetchFaults (State.fetchFaults_of_misaligned offWord),
      s.entersTrap_trapEntry .adEF nofun nofun⟩

end Sys2Proof.Machine
end

section
/-! Proofs of the obligations of spec/40_loads_stores.md: what the five loads compute and what the three
stores change. -/

namespace Sys2Proof.Machine

/-! ### The words of the I-type format (R102) -/

/-- An instruction encoded in the I-type form has its word, where the chart's cell of its major opcode reads the three
fields back into it. -/
theorem hasWord_of_iType {form : RegNo → RegNo → BitVec 16 → Instr} {op : BitVec 6} {rt rs : RegNo} {imm : BitVec 16}
    (encodes : encode (form rt rs imm) = iType op rs rt imm)
    (cell : ∀ w, opField w = op → decode w = .instr (form (rtField w) (rsField w) (immField w))) :
    HasWord (form rt rs imm) (iType op rs rt imm) := by
  refine ⟨encodes, ?_⟩
  rw [cell _ (opField_iType op rs rt imm), rtField_iType, rsField_iType, immField_iType]

/-! ### The bytes and the frame of a store (R75, R146 to R148) -/

/-- A byte of the stored halfword is that byte of the register. -/
theorem extractLsb'_lowHalf (v : Word) {start len : Nat} (within : start + len ≤ 16) :
    (lowHalf v).extractLsb' start len = v.extractLsb' start len := by
  ext k hk
  have low : start + k < 16 := by omega
  simp [lowHalf, low]

theorem State.writeByte_lowByte (s : State) (a v : Word) :
    s.writeByte a (lowByte v) = s.storeBytes a ((List.range 1).map fun _ => v.extractLsb' 0 8) := rfl

theorem State.writeHalf_lowHalf (s : State) (a v : Word) :
    s.writeHalf a (lowHalf v) = s.storeBytes a ((List.range 2).map fun k => v.extractLsb' (8 - 8 * k) 8) := by
  unfold State.writeHalf
  rw [extractLsb'_lowHalf v (by omega), extractLsb'_lowHalf v (by omega)]
  rfl

theorem State.writeWord_eq_storeBytes (s : State) (a v : Word) :
    s.writeWord a v = s.storeBytes a ((List.range 4).map fun k => v.extractLsb' (24 - 8 * k) 8) := rfl

/-- A store leaves marked what was marked and the word it stores to (R90). -/
theorem State.isSome_lookup_marks_storeBytes {s : State} (canonical : Marks.wf s.marks = true) (a : Word)
    (bytes : List Byte) (m : Nat) :
    (Marks.lookup (s.storeBytes a bytes).marks m).isSome =
      ((Marks.lookup s.marks m).isSome || m == s.wordNo a) := by
  rw [State.storeBytes_marks, Marks.lookup_add _ _ _ canonical]
  by_cases same : s.wordNo a = m
  · simp [same]
  · simp [same, Ne.symm same]

/-- The frame of a store: all but memory and marks is kept, and execution goes on in order. -/
theorem State.storeBytes_advance_frame (s : State) (a : Word) (bytes : List Byte) :
    let t := (s.storeBytes a bytes).advance
    KeepsRegs s t ∧ KeepsHiLo s t ∧ KeepsCp0 s t ∧ KeepsOutside s t ∧ GoesOn s t := by
  simp [KeepsRegs, KeepsHiLo, KeepsCp0, KeepsPlainCp0, KeepsOutside, GoesOn]

/-- A store whose access is allowed changes the `n` bytes from its effective address up to those it writes, and
nothing else. -/
theorem stores_of_exec_store {s : State} {i : Instr} {n : Nat} {write : State → Word → Word → State} {rt rs : RegNo}
    {imm : BitVec 16} {byteAt : Nat → Byte} (inv : StateInv s) (run : exec i s = s.store n write rt rs imm)
    (size : n = 1 ∨ n = 2 ∨ n = 4) (allowed : DataAllowed s n (effectiveAddress (s.reg rs) imm))
    (writes : ∀ a, write s a (s.reg rt) = s.storeBytes a ((List.range n).map byteAt)) :
    Stores s i n (effectiveAddress (s.reg rs) imm) byteAt := by
  have length : ((List.range n).map byteAt).length = n := by simp
  have completes := exec_store_of_allowed run size allowed
  rw [writes] at completes
  refine ⟨_, completes, fun k inside last => ?written, fun b unreached => ?untouched, fun m => ?marked,
    s.storeBytes_advance_frame ..⟩
  case written =>
    rw [State.advance_readByte, State.readByte_storeBytes_at s _ _ k (length.symm ▸ inside) inv.memCanonical
      fun j after more => last j after (length ▸ more)]
    simp
  case untouched =>
    rw [State.advance_readByte]
    exact State.readByte_storeBytes_other s _ b _ inv.memCanonical
      fun k inside reached => unreached ⟨k, length ▸ inside, reached⟩
  case marked =>
    rw [State.advance_marks]
    exact State.isSome_lookup_marks_storeBytes inv.marksCanonical ..

/-! ### The obligations -/

/-- Settles O26: each load's word is its row's, and the load either computes the big-endian value it reads or, where the
data check fails, enters the trap. -/
theorem loads : Obligations.Loads := by
  intro s rt rs imm ea half
  refine ⟨hasWord_of_iType rfl ?lb, hasWord_of_iType rfl ?lh, hasWord_of_iType rfl ?lw, hasWord_of_iType rfl ?lbu,
    hasWord_of_iType rfl ?lhu, fun allowed => ?byteValue, fun allowed => ?halfValue, fun allowed => ?wordValue,
    fun denied => ?byteTraps, fun denied => ?halfTraps, fun denied => ?wordTraps⟩
  case lb | lh | lw | lbu | lhu =>
    intro w op
    simp only [decode, op]
  case byteValue =>
    exact ⟨computes_of_exec_load (exec_lb ..) (by simp) allowed, computes_of_exec_load (exec_lbu ..) (by simp) allowed⟩
  case halfValue =>
    exact ⟨computes_of_exec_load (exec_lh ..) (by simp) allowed, computes_of_exec_load (exec_lhu ..) (by simp) allowed⟩
  case wordValue => exact computes_of_exec_load (exec_lw ..) (by simp) allowed
  case byteTraps =>
    exact ⟨traps_of_exec_load (exec_lb ..) (by simp) denied, traps_of_exec_load (exec_lbu ..) (by simp) denied⟩
  case halfTraps =>
    exact ⟨traps_of_exec_load (exec_lh ..) (by simp) denied, traps_of_exec_load (exec_lhu ..) (by simp) denied⟩
  case wordTraps => exact traps_of_exec_load (exec_lw ..) (by simp) denied

/-- Settles O27: each store's word is its row's, and the store either writes its register's bytes, the most significant
first, or, where the data check fails, enters the trap, which keeps memory. -/
theorem storeResults : Obligations.StoreResults := by
  intro s rt rs imm inv ea v
  refine ⟨hasWord_of_iType rfl ?sb, hasWord_of_iType rfl ?sh, hasWord_of_iType rfl ?sw, fun allowed => ?byteStored,
    fun allowed => ?halfStored, fun allowed => ?wordStored, fun denied => ?byteTraps, fun denied => ?halfTraps,
    fun denied => ?wordTraps⟩
  case sb | sh | sw =>
    intro w op
    simp only [decode, op]
  case byteStored =>
    exact stores_of_exec_store inv (exec_sb ..) (by simp) allowed (s.writeByte_lowByte · v)
  case halfStored =>
    exact stores_of_exec_store inv (exec_sh ..) (by simp) allowed (s.writeHalf_lowHalf · v)
  case wordStored =>
    exact stores_of_exec_store inv (exec_sw ..) (by simp) allowed (s.writeWord_eq_storeBytes · v)
  case byteTraps => exact traps_of_exec_store (exec_sb ..) (by simp) denied
  case halfTraps => exact traps_of_exec_store (exec_sh ..) (by simp) denied
  case wordTraps => exact traps_of_exec_store (exec_sw ..) (by simp) denied

end Sys2Proof.Machine
end

section
/-! Proofs of the obligations of spec/41_immediate_computational.md: what the seven immediate instructions that never
trap compute. -/

namespace Sys2Proof.Machine

/-! ### The operands and results of R162 to R168, as the spec writes them -/

theorem setIf_decide (c : Prop) [Decidable c] : setIf (decide c) = if c then 1#32 else 0#32 := by
  simp only [setIf, decide_eq_true_eq]

/-- Sign extension keeps the value, so SLTI compares with the immediate itself (R163). -/
theorem toInt_signExt (imm : BitVec 16) : (signExt imm).toInt = imm.toInt :=
  BitVec.toInt_signExtend_of_le (by decide)

/-- LUI's operand is the zero-extended immediate moved up by sixteen places (R168). -/
theorem upperImm_eq_shiftLeft (imm : BitVec 16) : upperImm imm = imm.zeroExtend 32 <<< 16 := by
  ext k hk
  rw [upperImm, BitVec.getElem_append (n := 16) (m := 16), BitVec.getElem_shiftLeft]
  by_cases low : k < 16
  · simp [low]
  · simp [low, BitVec.getLsbD_eq_getElem (show k - 16 < 16 by omega)]

/-! ### The instructions -/

theorem exec_addiu (s : State) (rt rs : RegNo) (imm : BitVec 16) :
    exec (.addiu rt rs imm) s = s.finish rt (s.reg rs + imm.signExtend 32) := rfl

theorem exec_slti (s : State) (rt rs : RegNo) (imm : BitVec 16) :
    exec (.slti rt rs imm) s = s.finish rt (if (s.reg rs).toInt < imm.toInt then 1#32 else 0#32) := by
  rw [← toInt_signExt, ← setIf_decide]
  rfl

theorem exec_sltiu (s : State) (rt rs : RegNo) (imm : BitVec 16) :
    exec (.sltiu rt rs imm) s =
      s.finish rt (if (s.reg rs).toNat < (imm.signExtend 32).toNat then 1#32 else 0#32) := by
  rw [← setIf_decide]
  rfl

theorem exec_andi (s : State) (rt rs : RegNo) (imm : BitVec 16) :
    exec (.andi rt rs imm) s = s.finish rt (s.reg rs &&& imm.zeroExtend 32) := rfl

theorem exec_ori (s : State) (rt rs : RegNo) (imm : BitVec 16) :
    exec (.ori rt rs imm) s = s.finish rt (s.reg rs ||| imm.zeroExtend 32) := rfl

theorem exec_xori (s : State) (rt rs : RegNo) (imm : BitVec 16) :
    exec (.xori rt rs imm) s = s.finish rt (s.reg rs ^^^ imm.zeroExtend 32) := rfl

theorem exec_lui (s : State) (rt : RegNo) (imm : BitVec 16) :
    exec (.lui rt imm) s = s.finish rt (imm.zeroExtend 32 <<< 16) := by
  rw [← upperImm_eq_shiftLeft]
  rfl

/-! ### LUI's word -/

/-- LUI's cell in the chart of major opcodes: rs is its should-be-zero field (R117, R118). -/
theorem decode_of_opField_lui {w : Word} (op : opField w = 0x0f#6) :
    decode w = whenZero (rsField w == 0#5) (.lui (rtField w) (immField w)) := by
  simp only [decode, op]

theorem hasWord_lui (rt : RegNo) (imm : BitVec 16) : HasWord (.lui rt imm) (iType 0x0f#6 0#5 rt imm) := by
  refine ⟨rfl, ?_⟩
  rw [decode_of_opField_lui (opField_iType ..), rsField_iType, rtField_iType, immField_iType]
  rfl

/-! ### The obligation -/

/-- Settles O32: each instruction's word is its row's, and each answers `State.finish` with its row's result. -/
theorem immediateResults : Obligations.ImmediateResults := by
  intro s rt rs imm a z
  refine ⟨hasWord_of_iType rfl ?addiu, computes_of_exec_finish (exec_addiu ..),
    hasWord_of_iType rfl ?slti, computes_of_exec_finish (exec_slti ..),
    hasWord_of_iType rfl ?sltiu, computes_of_exec_finish (exec_sltiu ..),
    hasWord_of_iType rfl ?andi, computes_of_exec_finish (exec_andi ..),
    hasWord_of_iType rfl ?ori, computes_of_exec_finish (exec_ori ..),
    hasWord_of_iType rfl ?xori, computes_of_exec_finish (exec_xori ..),
    hasWord_lui rt imm, computes_of_exec_finish (exec_lui ..)⟩
  case addiu | slti | sltiu | andi | ori | xori =>
    intro w op
    simp only [decode, op]

end Sys2Proof.Machine
end

section
/-! Proofs of the obligations of spec/42_register_computational.md: what the eight register-register instructions that
never trap and the six shifts compute. -/

namespace Sys2Proof.Machine

/-! ### The words of the R-type format under the SPECIAL opcode (R101, R112) -/

section
variable {i : Instr} {rd rs rt shamt : BitVec 5} {funct : BitVec 6}

theorem decode_rType_special :
    decode (rType 0x00#6 rs rt rd shamt funct) = decodeSpecial (rType 0x00#6 rs rt rd shamt funct) := by
  simp only [decode, opField_rType]

/-- An instruction encoded under SPECIAL has its word, where the function chart reads the word back into it. -/
theorem hasWord_of_special (encodes : encode i = rType 0x00#6 rs rt rd shamt funct)
    (cell : decodeSpecial (rType 0x00#6 rs rt rd shamt funct) = .instr i) :
    HasWord i (rType 0x00#6 rs rt rd shamt funct) :=
  ⟨encodes, decode_rType_special.trans cell⟩

end

/-! ### The shifts of R192 to R197 and their amount, bit by bit -/

/-- The bottom five bits of the register are its value modulo 32 (R108). -/
theorem toNat_shiftAmount (v : Word) : (shiftAmount v).toNat = v.toNat % 32 := by
  simp [shiftAmount]

section
variable (v : Word) (n : BitVec 5) {k : Nat}

theorem getLsbD_shiftLeft_word (inside : k < 32) :
    (shiftLeft v n).getLsbD k = (decide (n.toNat ≤ k) && v.getLsbD (k - n.toNat)) := by
  rw [shiftLeft, BitVec.getLsbD_shiftLeft]
  simp [inside, ← decide_not]

/-- A word reads as zero above bit 31, which is where the zeros that enter come from. -/
theorem getLsbD_shiftRightLogical :
    (shiftRightLogical v n).getLsbD k = if k + n.toNat < 32 then v.getLsbD (k + n.toNat) else false := by
  rw [shiftRightLogical, BitVec.getLsbD_ushiftRight, Nat.add_comm]
  split
  case isTrue => rfl
  case isFalse above => exact BitVec.getLsbD_of_ge v _ (Nat.le_of_not_lt above)

theorem getLsbD_shiftRightArithmetic (inside : k < 32) :
    (shiftRightArithmetic v n).getLsbD k = if k + n.toNat < 32 then v.getLsbD (k + n.toNat) else v.msb := by
  rw [shiftRightArithmetic, BitVec.getLsbD_sshiftRight, Nat.add_comm n.toNat]
  simp [inside]

end

/-! ### The instructions -/

section
variable (s : State) (rd rs rt : RegNo) (shamt : BitVec 5)

theorem exec_addu : exec (.addu rd rs rt) s = s.finish rd (s.reg rs + s.reg rt) := rfl

theorem exec_subu : exec (.subu rd rs rt) s = s.finish rd (s.reg rs - s.reg rt) := rfl

theorem exec_slt :
    exec (.slt rd rs rt) s = s.finish rd (if (s.reg rs).toInt < (s.reg rt).toInt then 1#32 else 0#32) := by
  rw [← setIf_decide]
  rfl

theorem exec_sltu :
    exec (.sltu rd rs rt) s = s.finish rd (if (s.reg rs).toNat < (s.reg rt).toNat then 1#32 else 0#32) := by
  rw [← setIf_decide]
  rfl

theorem exec_and : exec (.and rd rs rt) s = s.finish rd (s.reg rs &&& s.reg rt) := rfl

theorem exec_or : exec (.or rd rs rt) s = s.finish rd (s.reg rs ||| s.reg rt) := rfl

theorem exec_xor : exec (.xor rd rs rt) s = s.finish rd (s.reg rs ^^^ s.reg rt) := rfl

theorem exec_nor : exec (.nor rd rs rt) s = s.finish rd (~~~(s.reg rs ||| s.reg rt)) := rfl

theorem exec_sll : exec (.sll rd rt shamt) s = s.finish rd (shiftLeft (s.reg rt) shamt) := rfl

theorem exec_srl : exec (.srl rd rt shamt) s = s.finish rd (shiftRightLogical (s.reg rt) shamt) := rfl

theorem exec_sra : exec (.sra rd rt shamt) s = s.finish rd (shiftRightArithmetic (s.reg rt) shamt) := rfl

theorem exec_sllv : exec (.sllv rd rt rs) s = s.finish rd (shiftLeft (s.reg rt) (shiftAmount (s.reg rs))) := rfl

theorem exec_srlv :
    exec (.srlv rd rt rs) s = s.finish rd (shiftRightLogical (s.reg rt) (shiftAmount (s.reg rs))) := rfl

theorem exec_srav :
    exec (.srav rd rt rs) s = s.finish rd (shiftRightArithmetic (s.reg rt) (shiftAmount (s.reg rs))) := rfl

end

/-! ### The obligations -/

/-- Settles O33: each instruction's word is its row's, and each answers `State.finish` with its row's result. -/
theorem registerResults : Obligations.RegisterResults := by
  intro s rd rs rt a b word
  refine ⟨hasWord_of_special rfl ?addu, computes_of_exec_finish (exec_addu ..),
    hasWord_of_special rfl ?subu, computes_of_exec_finish (exec_subu ..),
    hasWord_of_special rfl ?slt, computes_of_exec_finish (exec_slt ..),
    hasWord_of_special rfl ?sltu, computes_of_exec_finish (exec_sltu ..),
    hasWord_of_special rfl ?and, computes_of_exec_finish (exec_and ..),
    hasWord_of_special rfl ?or, computes_of_exec_finish (exec_or ..),
    hasWord_of_special rfl ?xor, computes_of_exec_finish (exec_xor ..),
    hasWord_of_special rfl ?nor, computes_of_exec_finish (exec_nor ..)⟩
  case addu | subu | slt | sltu | and | or | xor | nor =>
    simp [decodeSpecial, whenZero]

/-- Settles O34: each shift's word is its row's, each answers `State.finish` with its shift of rt, and the bits of the
three shifts are known for every amount, which for a shift by register is rs modulo 32. -/
theorem shiftResults : Obligations.ShiftResults := by
  intro s rd rt rs shamt left right v n byAmount byRegister
  have amount : (shiftAmount (s.reg rs)).toNat = n := toNat_shiftAmount _
  have leftBits : ∀ m : BitVec 5, left v m.toNat (shiftLeft v m) :=
    fun m _ inside => getLsbD_shiftLeft_word v m inside
  have logicalBits : ∀ m : BitVec 5, right v m.toNat false (shiftRightLogical v m) :=
    fun m _ _ => getLsbD_shiftRightLogical v m
  have arithmeticBits : ∀ m : BitVec 5, right v m.toNat v.msb (shiftRightArithmetic v m) :=
    fun m _ inside => getLsbD_shiftRightArithmetic v m inside
  refine ⟨⟨hasWord_of_special rfl ?sll, _, computes_of_exec_finish (exec_sll ..), leftBits shamt⟩,
    ⟨hasWord_of_special rfl ?srl, _, computes_of_exec_finish (exec_srl ..), logicalBits shamt⟩,
    ⟨hasWord_of_special rfl ?sra, _, computes_of_exec_finish (exec_sra ..), arithmeticBits shamt⟩,
    ⟨hasWord_of_special rfl ?sllv, _, computes_of_exec_finish (exec_sllv ..), amount ▸ leftBits _⟩,
    ⟨hasWord_of_special rfl ?srlv, _, computes_of_exec_finish (exec_srlv ..), amount ▸ logicalBits _⟩,
    ⟨hasWord_of_special rfl ?srav, _, computes_of_exec_finish (exec_srav ..), amount ▸ arithmeticBits _⟩⟩
  case sll | srl | sra | sllv | srlv | srav =>
    simp [decodeSpecial, whenZero]

end Sys2Proof.Machine
end

section
/-! Proofs of the obligations of spec/43_multiply_divide.md: what the four moves of `hi` and `lo` change. -/

namespace Sys2Proof.Machine

/-! ### The words under the SPECIAL opcode (R112) -/

-- Elaborated at once, and first in this section: `decode`'s equations are then there before the proofs above this
-- section, which elaborate in parallel, ask for them. Otherwise each of those blocks a thread while it waits, and a
-- compile of the whole text as one file can run out of the memory it is allowed for threads.
set_option Elab.async false in
theorem decode_of_opField_special {w : Word} (op : opField w = 0x00#6) : decode w = decodeSpecial w := by
  simp only [decode, op]

/-- An instruction has a word under SPECIAL where it is encoded as it and the function chart reads it back. -/
theorem hasWord_of_opField_special {i : Instr} {w : Word} (encodes : encode i = w) (op : opField w = 0x00#6)
    (cell : decodeSpecial w = .instr i) : HasWord i w :=
  ⟨encodes, (decode_of_opField_special op).trans cell⟩

/-! ### The pair `hi` and `lo` (R215 to R218) -/

/-- The frame of an instruction that ends in a new `hi` and `lo`: all but the two is kept, and execution goes on in
order. -/
theorem State.setHiLo_advance_frame (s : State) (hi lo : Word) :
    let t := ((s.setHi hi).setLo lo).advance
    KeepsRegs s t ∧ KeepsCp0 s t ∧ KeepsMemory s t ∧ KeepsOutside s t ∧ GoesOn s t :=
  have plainCp0 : KeepsPlainCp0 s ((s.setHi hi).setLo lo).advance := ⟨rfl, rfl, rfl, rfl, rfl, rfl⟩
  ⟨fun _ => rfl, ⟨plainCp0, rfl, rfl⟩, ⟨fun _ => rfl, rfl⟩, ⟨rfl, rfl, rfl, rfl⟩, ⟨rfl, rfl, rfl⟩⟩

/-- What `State.finishHiLo` does, as a contract over the values that end up in `hi` and `lo`. -/
theorem setsHiLo_of_exec_finishHiLo {s : State} {i : Instr} {hi lo : Word} {result : Word → Word → Prop}
    (run : exec i s = s.finishHiLo hi lo) (meets : result hi lo) : SetsHiLo s i result :=
  ⟨_, run, meets, s.setHiLo_advance_frame hi lo⟩

/-! ### The instructions -/

section
variable (s : State) (rd rs : RegNo)

theorem exec_mfhi : exec (.mfhi rd) s = s.finish rd s.hi := rfl

theorem exec_mflo : exec (.mflo rd) s = s.finish rd s.lo := rfl

/-- MTHI writes one register of the pair, so it writes back the `lo` it found (R217). -/
theorem exec_mthi : exec (.mthi rs) s = s.finishHiLo (s.reg rs) s.lo := rfl

/-- MTLO writes one register of the pair, so it writes back the `hi` it found (R218). -/
theorem exec_mtlo : exec (.mtlo rs) s = s.finishHiLo s.hi (s.reg rs) := rfl

end

/-! ### The obligation -/

/-- Settles O40: each move's word is its row's; the two moves from the pair answer `State.finish` with `hi` or `lo`, and
the two moves to it answer `State.finishHiLo` with the other register's old value. -/
theorem hiLoMoves : Obligations.HiLoMoves := by
  intro s rd rs
  refine ⟨hasWord_of_opField_special (w := rType ..) rfl (opField_rType ..) ?mfhi,
    computes_of_exec_finish (exec_mfhi ..),
    hasWord_of_opField_special (w := rType ..) rfl (opField_rType ..) ?mflo,
    computes_of_exec_finish (exec_mflo ..),
    hasWord_of_opField_special (w := rType ..) rfl (opField_rType ..) ?mthi,
    setsHiLo_of_exec_finishHiLo (exec_mthi ..) ⟨rfl, rfl⟩,
    hasWord_of_opField_special (w := rType ..) rfl (opField_rType ..) ?mtlo,
    setsHiLo_of_exec_finishHiLo (exec_mtlo ..) ⟨rfl, rfl⟩⟩
  case mfhi | mflo | mthi | mtlo =>
    -- Once the fields are read back, funct names the chart's row and its should-be-zero fields are literals.
    delta decodeSpecial
    rw [functField_rType, rsField_rType, rtField_rType, rdField_rType, shamtField_rType]
    rfl

end Sys2Proof.Machine
end

section
/-! Proofs of the obligations of spec/45_system_coprocessor.md: ICINV. -/

namespace Sys2Proof.Machine

/-! ### Where CP0 may not be used -/

/-- Where CP0 may not be used, the usability test of R270 raises CpU in place of the instruction's own meaning. -/
theorem State.withCop0_of_not_allowed {s : State} (denied : ¬Cop0Allowed s) (k : Result) :
    s.withCop0 k = s.raise (.cpU 0#2) :=
  if_neg (mt s.cop0Usable_iff.mp denied)

/-- A COP0 instruction executed where CP0 may not be used raises CpU, with coprocessor number 0 recorded. -/
theorem traps_of_exec_withCop0 {s : State} {i : Instr} {k : Result} (run : exec i s = s.withCop0 k)
    (denied : ¬Cop0Allowed s) : Traps s i 11#5 (some 0#2) none :=
  ⟨s.trapEntry (.cpU 0#2), run.trans (State.withCop0_of_not_allowed denied k),
    s.entersTrap_trapEntry (.cpU 0#2) (fun _ recorded _ => Option.some.inj recorded) nofun⟩

/-! ### What a fetch sees (R90) -/

/-- A fetch from a word that carries no mark sees memory, whatever the ICACHE policy. -/
theorem State.fetch_of_unmarked {s : State} (unmarked : Marks.lookup s.marks (s.wordNo s.pc) = none) :
    s.fetch = some (s.readWord s.pc) := by
  rw [State.fetch, unmarked]

theorem State.fetch_of_marks_eq_nil {s : State} (flushed : s.marks = []) : s.fetch = some (s.readWord s.pc) :=
  State.fetch_of_unmarked (by rw [flushed]; rfl)

/-! ### ICINV -/

theorem hasWord_icinv : HasWord .icinv 0x42000014#32 := ⟨rfl, by decide⟩

theorem exec_icinv (s : State) : exec .icinv s = s.withCop0 (.next s.clearMarks.advance) := rfl

/-- ICINV's next state where CP0 may be used (R274): the marks cleared, and on to the next instruction. -/
theorem exec_icinv_of_allowed {s : State} (allowed : Cop0Allowed s) : exec .icinv s = .next s.clearMarks.advance := by
  rw [exec_icinv, State.withCop0_of_allowed allowed]

/-- The frame of ICINV: all but the marks is kept, and execution goes on in order. -/
theorem State.clearMarks_advance_frame (s : State) :
    let t := s.clearMarks.advance
    (∀ a, t.readByte a = s.readByte a) ∧ KeepsRegs s t ∧ KeepsHiLo s t ∧ KeepsCp0 s t ∧ KeepsOutside s t ∧
      GoesOn s t := by
  simp [KeepsRegs, KeepsHiLo, KeepsCp0, KeepsPlainCp0, KeepsOutside, GoesOn]

/-- Settles O30: where CP0 may be used ICINV answers `s.clearMarks.advance`, which has no marks, so that its fetch sees
memory, and whose other fields are framed; where CP0 may not be used the usability test raises CpU. -/
theorem icinvFlushes : Obligations.IcinvFlushes := by
  intro s
  refine ⟨hasWord_icinv, fun allowed => ?flushes, traps_of_exec_withCop0 (exec_icinv s)⟩
  case flushes =>
    have flushed : s.clearMarks.advance.marks = [] := by simp
    obtain ⟨bytes, regs, hiLo, cp0, outside, goesOn⟩ := s.clearMarks_advance_frame
    exact ⟨s.clearMarks.advance, exec_icinv_of_allowed allowed, flushed, bytes, regs, hiLo, cp0, outside, goesOn,
      State.fetch_of_marks_eq_nil flushed⟩

end Sys2Proof.Machine
end

section
/-! Proofs of the obligations of spec/60_exceptions.md: the two vectors, trap entry, the start of the handler, and the
words that raise CpU. -/

namespace Sys2Proof.Machine

/-! ### Trap entry (R319 to R321) -/

/-- Settles O19: the vectors are what `State.ofReset` and `State.trapEntry` put into `pc` (R319). -/
theorem vectors : Obligations.Vectors :=
  ⟨fun _ _ => rfl, State.trapEntry_pc⟩

/-- An exception that records no coprocessor number and no address enters the trap with its code alone. -/
theorem State.entersTrap_code (s : State) (e : Exc) : EntersTrap s (s.trapEntry e) e.code none none :=
  s.entersTrap_trapEntry e nofun nofun

/-- CpU records its coprocessor number, whatever is drawn for the exceptions that record none (R50). -/
theorem State.entersTrap_cpU (s : State) (z : BitVec 2) :
    EntersTrap s (s.trapEntry (.cpU z)) 11#5 (some z) none :=
  s.entersTrap_trapEntry (.cpU z) (fun _ recorded _ => Option.some.inj recorded) nofun

/-- Settles O20: `State.entersTrap_trapEntry` says what R320 says of any exception; CpU records its number, AdEL and
AdES their address, and the other seven nothing. -/
theorem trapEntry : Obligations.TrapEntry := by
  intro s
  exact ⟨s.entersTrap_code .hint, s.entersTrap_code .tint,
    fun a => s.entersTrap_trapEntry (.adEL a) nofun fun _ recorded _ => Option.some.inj recorded,
    fun a => s.entersTrap_trapEntry (.adES a) nofun fun _ recorded _ => Option.some.inj recorded,
    s.entersTrap_code .adEF, s.entersTrap_code .sys, s.entersTrap_code .bp, s.entersTrap_code .ri,
    s.entersTrap_cpU, s.entersTrap_code .ov⟩

/-- A fetch at an aligned `pc` in kernel mode passes the check of R79, wherever `pc` points. -/
theorem State.fetchFaults_of_kernel {s : State} (kernel : s.status.kuC = false) (aligned : s.pc.toNat % 4 = 0) :
    s.fetchFaults = false := by
  have allowed : DataAllowed s 4 s.pc := ⟨aligned, by simp [kernel]⟩
  rw [State.fetchFaults_eq_dataFaults]
  exact (State.dataFaults_eq_false_iff (by simp)).mpr allowed

/-- Where interrupts are globally disabled none may be taken, whatever is pending (R312). -/
theorem State.pendingInterrupt_of_disabled {s : State} (disabled : s.status.ieC = false) :
    s.pendingInterrupt = none := by
  simp [State.pendingInterrupt, State.hintOk, State.tintOk, disabled]

/-- Settles O21: the push of trap entry leaves kernel mode with interrupts disabled, and the trap vector is aligned. -/
theorem handlerStarts : Obligations.HandlerStarts := by
  intro s e t
  have kernel : t.status.kuC = false := rfl
  have disabled : t.status.ieC = false := rfl
  have atVector : t.pc = 0x00001100#32 := s.trapEntry_pc e
  have aligned : t.pc.toNat % 4 = 0 := by rw [atVector]; rfl
  exact ⟨kernel, disabled, atVector, State.fetchFaults_of_kernel kernel aligned,
    State.pendingInterrupt_of_disabled disabled⟩

/-! ### The major opcode as a number (R111) -/

theorem opField_of_toNat_div {w : Word} {op : Nat} (major : w.toNat / 2 ^ 26 = op) : opField w = BitVec.ofNat 6 op := by
  rw [← major, opField, BitVec.extractLsb', Nat.shiftRight_eq_div_pow]

/-! ### COP0 words (R114, R115, R270) -/

/-- The instruction's meaning stands behind the usability test of R270. -/
def TestsCop0 (i : Instr) : Prop := ∀ s, ∃ k, exec i s = s.withCop0 k

theorem testsCop0_mfc0 (rt : RegNo) (rd : Cp0No) : TestsCop0 (.mfc0 rt rd) := fun _ => ⟨_, rfl⟩
theorem testsCop0_mtc0 (rt : RegNo) (rd : Cp0No) : TestsCop0 (.mtc0 rt rd) := fun _ => ⟨_, rfl⟩
theorem testsCop0_rfe : TestsCop0 .rfe := fun s => ⟨_, exec_rfe s⟩
theorem testsCop0_icinv : TestsCop0 .icinv := fun s => ⟨_, exec_icinv s⟩

/-- What a COP0 word can decode to. -/
inductive DecodesCop0 : Decoded → Prop where
  | instr {i : Instr} (tests : TestsCop0 i) : DecodesCop0 (.instr i)
  | shouldBeZero (i : Instr) : DecodesCop0 (.shouldBeZero i)
  | illegal : DecodesCop0 .illegalCop0

theorem decodesCop0_whenZero {i : Instr} (tests : TestsCop0 i) (zero : Bool) : DecodesCop0 (whenZero zero i) := by
  cases zero with
  | false => exact .shouldBeZero i
  | true => exact .instr tests

theorem decodesCop0_decodeCop0Function (w : Word) : DecodesCop0 (decodeCop0Function w) := by
  unfold decodeCop0Function
  split
  · exact decodesCop0_whenZero testsCop0_rfe _
  · exact decodesCop0_whenZero testsCop0_icinv _
  · exact .illegal

theorem decodesCop0_decodeCop0 (w : Word) : DecodesCop0 (decodeCop0 w) := by
  unfold decodeCop0
  split
  · exact decodesCop0_decodeCop0Function w
  · split
    · exact decodesCop0_whenZero (testsCop0_mfc0 _ _) _
    · exact decodesCop0_whenZero (testsCop0_mtc0 _ _) _
    · exact .illegal

theorem decode_of_opField_cop0 {w : Word} (op : opField w = 0x10#6) : decode w = decodeCop0 w := by
  simp only [decode, op]

/-- Where CP0 may not be used, the policy for should-be-zero fields is never asked about a COP0 word (log 42). -/
theorem State.runShouldBeZero_of_not_allowed {s : State} {w : Word} (op : opField w = 0x10#6)
    (denied : ¬Cop0Allowed s) (i : Instr) : s.runShouldBeZero w i = s.raise (.cpU 0#2) := by
  have unusable : s.cop0Usable = false := Bool.eq_false_iff.mpr (mt s.cop0Usable_iff.mp denied)
  have tested : (isCop0Word w && !s.cop0Usable) = true := by simp [isCop0Word, op, unusable]
  exact if_pos tested

/-- Where CP0 may not be used every COP0 word raises CpU, whatever it decodes to (R307). -/
theorem State.runWord_cop0_of_not_allowed {s : State} {w : Word} (op : opField w = 0x10#6)
    (denied : ¬Cop0Allowed s) : s.runWord w = s.raise (.cpU 0#2) := by
  have decoded : DecodesCop0 (decode w) := decode_of_opField_cop0 op ▸ decodesCop0_decodeCop0 w
  unfold State.runWord
  generalize decode w = d at decoded ⊢
  cases decoded with
  | instr tests =>
    obtain ⟨k, run⟩ := tests s
    exact run.trans (State.withCop0_of_not_allowed denied k)
  | shouldBeZero i => exact State.runShouldBeZero_of_not_allowed op denied i
  | illegal => exact State.withCop0_of_not_allowed denied _

/-! ### The words of coprocessors 1, 2 and 3 (R122, R281, R282) -/

/-- A word of a coprocessor's cell raises CpU with that coprocessor's number, in either mode: each of the fifteen major
opcodes has its own instruction, whose meaning is to raise it. -/
theorem State.runWord_of_coprocessorCell (s : State) {w : Word} {z : BitVec 2} (cell : CoprocessorCell w z) :
    s.runWord w = s.raise (.cpU z) := by
  obtain ⟨rfl, major | major | major | major | major⟩ | ⟨rfl, major | major | major | major | major⟩ |
    ⟨rfl, major | major | major | major | major⟩ := cell
  all_goals
    simp only [State.runWord, decode, opField_of_toNat_div major]
    rfl

/-- Settles O7: both kinds of words run to `s.raise (.cpU z)`, a COP0 word because user mode without `CU[0]` fails the
usability test whatever the word decodes to, a coprocessor word by its cell. -/
theorem coprocessorUnusableWords : Obligations.CoprocessorUnusableWords := by
  refine fun s w => ⟨fun major user denied => ?cop0, fun z cell => ?coprocessor⟩
  case cop0 =>
    have notAllowed : ¬Cop0Allowed s := by simp [Cop0Allowed, user, denied]
    exact ⟨_, State.runWord_cop0_of_not_allowed (opField_of_toNat_div major) notAllowed, s.entersTrap_cpU 0#2⟩
  case coprocessor =>
    exact ⟨_, s.runWord_of_coprocessorCell cell, s.entersTrap_cpU z⟩

end Sys2Proof.Machine
end

section
/-! Proofs of the obligations of spec/30_encoding.md about words: the encoder and the decoder undo each other, every word
is in exactly one of the four cases of R110, and a word with should-be-zero fields set keeps its operands. -/

namespace Sys2Proof.Machine

open Sys2Proof.Laws

/-! ### Decoding the word of an instruction (R111 to R115) -/

theorem decode_of_opField_regimm {w : Word} (op : opField w = 0x01#6) : decode w = decodeRegimm w := by
  simp only [decode, op]

/-- Settles O1: the fields of an encoded word are the ones it was put together from, so they lead each chart to the
instruction's own cell, and the should-be-zero fields there are zero. -/
theorem decodeOfEncode : Obligations.DecodeOfEncode := by
  intro i
  cases i
  case lb | lh | lw | lbu | lhu | sb | sh | sw | addi | addiu | slti | sltiu | andi | ori | xori | beq | bne | beql |
      bnel =>
    simp only [encode, decode, opField_iType, rsField_iType, rtField_iType, immField_iType]
  case lui | blez | bgtz | blezl | bgtzl => simp [encode, decode, whenZero]
  case bltz | bgez | bltzl | bgezl | bltzal | bgezal | bltzall | bgezall =>
    simp [encode, decode_of_opField_regimm, decodeRegimm]
  case sll | srl | sra | sllv | srlv | srav | add | addu | sub | subu | and | or | xor | nor | slt | sltu | mfhi | mthi |
      mflo | mtlo | mult | multu | div | divu | jr | jalr =>
    simp [encode, decode_rType_special, decodeSpecial, whenZero]
  case syscall | breakpoint | sync => simp [encode, decode_of_opField_special, decodeSpecial]
  case mfc0 | mtc0 =>
    have kernelForms : (0x00#5 : BitVec 5).msb = false ∧ (0x04#5 : BitVec 5).msb = false := by decide
    simp [encode, decode_of_opField_cop0, decodeCop0, kernelForms, whenZero]
  case rfe | icinv => decide
  all_goals simp only [encode, decode, opField_jType, targetField_jType]

/-! ### Words compared field by field (R101 to R104) -/

section
variable (v w k : Word)

theorem opField_and : opField (v &&& w) = opField v &&& opField w := BitVec.extractLsb'_and ..
theorem rsField_and : rsField (v &&& w) = rsField v &&& rsField w := BitVec.extractLsb'_and ..
theorem rtField_and : rtField (v &&& w) = rtField v &&& rtField w := BitVec.extractLsb'_and ..
theorem rdField_and : rdField (v &&& w) = rdField v &&& rdField w := BitVec.extractLsb'_and ..
theorem shamtField_and : shamtField (v &&& w) = shamtField v &&& shamtField w := BitVec.extractLsb'_and ..
theorem functField_and : functField (v &&& w) = functField v &&& functField w := BitVec.extractLsb'_and ..
theorem immField_and : immField (v &&& w) = immField v &&& immField w := BitVec.extractLsb'_and ..

theorem word_eq_iff_rFields :
    v = w ↔ opField w = opField v ∧ rsField w = rsField v ∧ rtField w = rtField v ∧ rdField w = rdField v ∧
      shamtField w = shamtField v ∧ functField w = functField v := by
  refine ⟨fun same => same ▸ ⟨rfl, rfl, rfl, rfl, rfl, rfl⟩, fun ⟨op, rs, rt, rd, shamt, funct⟩ => ?_⟩
  rw [← rType_fields v, ← rType_fields w, op, rs, rt, rd, shamt, funct]

theorem word_eq_iff_iFields :
    v = w ↔ opField w = opField v ∧ rsField w = rsField v ∧ rtField w = rtField v ∧ immField w = immField v := by
  refine ⟨fun same => same ▸ ⟨rfl, rfl, rfl, rfl⟩, fun ⟨op, rs, rt, imm⟩ => ?_⟩
  rw [← iType_fields v, ← iType_fields w, op, rs, rt, imm]

theorem toNat_opField : (opField w).toNat = w.toNat / 2 ^ 26 := by
  simp only [opField, BitVec.extractLsb'_toNat, Nat.shiftRight_eq_div_pow]
  omega

theorem toNat_rsField : (rsField w).toNat = w.toNat / 2 ^ 21 % 2 ^ 5 := by
  simp only [rsField, BitVec.extractLsb'_toNat, Nat.shiftRight_eq_div_pow]

theorem toNat_rtField : (rtField w).toNat = w.toNat / 2 ^ 16 % 2 ^ 5 := by
  simp only [rtField, BitVec.extractLsb'_toNat, Nat.shiftRight_eq_div_pow]

theorem toNat_functField : (functField w).toNat = w.toNat % 2 ^ 6 := by
  simp only [functField, BitVec.extractLsb'_toNat, Nat.shiftRight_zero]

end

/-! ### The rows of R117 -/

theorem row_mem_opcodeRows (i : Instr) : i.row ∈ opcodeRows := by
  cases i <;> simp only [Instr.row] <;> decide

/-- The full pattern of a row decides on every bit the charts decide on. -/
theorem OpcodeRow.chart_and_mask {r : OpcodeRow} (row : r ∈ opcodeRows) : r.chart &&& r.mask = r.chart := by
  have rows : ∀ r ∈ opcodeRows, r.chart &&& r.mask = r.chart := by decide
  exact rows r row

/-- Every instruction's word fits its row, whatever the instruction. -/
theorem conforms_encode : ∀ i, EncodingPattern.Statement i
  | .lb .. => EncodingPattern.lb ..
  | .lh .. => EncodingPattern.lh ..
  | .lw .. => EncodingPattern.lw ..
  | .lbu .. => EncodingPattern.lbu ..
  | .lhu .. => EncodingPattern.lhu ..
  | .sb .. => EncodingPattern.sb ..
  | .sh .. => EncodingPattern.sh ..
  | .sw .. => EncodingPattern.sw ..
  | .addi .. => EncodingPattern.addi ..
  | .addiu .. => EncodingPattern.addiu ..
  | .slti .. => EncodingPattern.slti ..
  | .sltiu .. => EncodingPattern.sltiu ..
  | .andi .. => EncodingPattern.andi ..
  | .ori .. => EncodingPattern.ori ..
  | .xori .. => EncodingPattern.xori ..
  | .lui .. => EncodingPattern.lui ..
  | .sll .. => EncodingPattern.sll ..
  | .srl .. => EncodingPattern.srl ..
  | .sra .. => EncodingPattern.sra ..
  | .sllv .. => EncodingPattern.sllv ..
  | .srlv .. => EncodingPattern.srlv ..
  | .srav .. => EncodingPattern.srav ..
  | .add .. => EncodingPattern.add ..
  | .addu .. => EncodingPattern.addu ..
  | .sub .. => EncodingPattern.sub ..
  | .subu .. => EncodingPattern.subu ..
  | .and .. => EncodingPattern.and ..
  | .or .. => EncodingPattern.or ..
  | .xor .. => EncodingPattern.xor ..
  | .nor .. => EncodingPattern.nor ..
  | .slt .. => EncodingPattern.slt ..
  | .sltu .. => EncodingPattern.sltu ..
  | .mfhi .. => EncodingPattern.mfhi ..
  | .mthi .. => EncodingPattern.mthi ..
  | .mflo .. => EncodingPattern.mflo ..
  | .mtlo .. => EncodingPattern.mtlo ..
  | .mult .. => EncodingPattern.mult ..
  | .multu .. => EncodingPattern.multu ..
  | .div .. => EncodingPattern.div ..
  | .divu .. => EncodingPattern.divu ..
  | .j .. => EncodingPattern.j ..
  | .jal .. => EncodingPattern.jal ..
  | .jr .. => EncodingPattern.jr ..
  | .jalr .. => EncodingPattern.jalr ..
  | .beq .. => EncodingPattern.beq ..
  | .bne .. => EncodingPattern.bne ..
  | .blez .. => EncodingPattern.blez ..
  | .bgtz .. => EncodingPattern.bgtz ..
  | .beql .. => EncodingPattern.beql ..
  | .bnel .. => EncodingPattern.bnel ..
  | .blezl .. => EncodingPattern.blezl ..
  | .bgtzl .. => EncodingPattern.bgtzl ..
  | .bltz .. => EncodingPattern.bltz ..
  | .bgez .. => EncodingPattern.bgez ..
  | .bltzl .. => EncodingPattern.bltzl ..
  | .bgezl .. => EncodingPattern.bgezl ..
  | .bltzal .. => EncodingPattern.bltzal ..
  | .bgezal .. => EncodingPattern.bgezal ..
  | .bltzall .. => EncodingPattern.bltzall ..
  | .bgezall .. => EncodingPattern.bgezall ..
  | .mfc0 .. => EncodingPattern.mfc0 ..
  | .mtc0 .. => EncodingPattern.mtc0 ..
  | .rfe => EncodingPattern.rfe
  | .icinv => EncodingPattern.icinv
  | .syscall .. => EncodingPattern.syscall ..
  | .breakpoint .. => EncodingPattern.breakpoint ..
  | .sync .. => EncodingPattern.sync ..
  | .cop1Unusable010001 .. => EncodingPattern.cop1Unusable010001 ..
  | .cop1Unusable110001 .. => EncodingPattern.cop1Unusable110001 ..
  | .cop1Unusable110101 .. => EncodingPattern.cop1Unusable110101 ..
  | .cop1Unusable111001 .. => EncodingPattern.cop1Unusable111001 ..
  | .cop1Unusable111101 .. => EncodingPattern.cop1Unusable111101 ..
  | .cop2Unusable010010 .. => EncodingPattern.cop2Unusable010010 ..
  | .cop2Unusable110010 .. => EncodingPattern.cop2Unusable110010 ..
  | .cop2Unusable110110 .. => EncodingPattern.cop2Unusable110110 ..
  | .cop2Unusable111010 .. => EncodingPattern.cop2Unusable111010 ..
  | .cop2Unusable111110 .. => EncodingPattern.cop2Unusable111110 ..
  | .cop3Unusable010011 .. => EncodingPattern.cop3Unusable010011 ..
  | .cop3Unusable110011 .. => EncodingPattern.cop3Unusable110011 ..
  | .cop3Unusable110111 .. => EncodingPattern.cop3Unusable110111 ..
  | .cop3Unusable111011 .. => EncodingPattern.cop3Unusable111011 ..
  | .cop3Unusable111111 .. => EncodingPattern.cop3Unusable111111 ..

theorem OpcodeRow.conforms_iff (r : OpcodeRow) (w : Word) : r.conforms w = true ↔ w &&& r.mask = r.pattern := by
  simp [OpcodeRow.conforms]

theorem OpcodeRow.selects_iff (r : OpcodeRow) (w : Word) :
    r.selects w = true ↔ w &&& r.chart = r.pattern &&& r.chart := by
  simp [OpcodeRow.selects]

/-- A word that fits a row's full pattern is in the row's cell. -/
theorem OpcodeRow.selects_of_conforms {r : OpcodeRow} (row : r ∈ opcodeRows) {w : Word} (fits : r.conforms w = true) :
    r.selects w = true := by
  rw [OpcodeRow.conforms_iff] at fits
  rw [OpcodeRow.selects_iff, ← fits, BitVec.and_assoc, BitVec.and_comm r.mask, OpcodeRow.chart_and_mask row]

/-- Two rows disagree on a bit that both charts decide on. -/
def OpcodeRow.Apart (a b : OpcodeRow) : Prop := (a.pattern ^^^ b.pattern) &&& (a.chart &&& b.chart) ≠ 0#32

theorem opcodeRows_pairwise_apart : opcodeRows.Pairwise OpcodeRow.Apart := by
  unfold OpcodeRow.Apart
  decide

theorem OpcodeRow.Apart.symm {a b : OpcodeRow} (apart : OpcodeRow.Apart a b) : OpcodeRow.Apart b a := by
  rwa [OpcodeRow.Apart, BitVec.xor_comm, BitVec.and_comm b.chart]

theorem and_xor_distrib (x y m : Word) : (x ^^^ y) &&& m = (x &&& m) ^^^ (y &&& m) := by
  ext k hk
  simp only [BitVec.getElem_and, BitVec.getElem_xor, Bool.and_xor_distrib_right]

/-- No two rows share a cell. -/
theorem OpcodeRow.eq_of_selects {r r' : OpcodeRow} (row : r ∈ opcodeRows) (row' : r' ∈ opcodeRows) {w : Word}
    (selects : r.selects w = true) (selects' : r'.selects w = true) : r = r' := by
  by_contra different
  have symmetric : Std.Symm OpcodeRow.Apart := ⟨fun _ _ => OpcodeRow.Apart.symm⟩
  refine opcodeRows_pairwise_apart.forall row row' different ?_
  rw [OpcodeRow.selects_iff] at selects selects'
  have same : r.pattern &&& (r.chart &&& r'.chart) = r'.pattern &&& (r.chart &&& r'.chart) := by
    rw [← BitVec.and_assoc, ← selects, BitVec.and_comm r.chart, ← BitVec.and_assoc, ← selects', BitVec.and_assoc,
      BitVec.and_assoc, BitVec.and_comm r.chart]
  rw [and_xor_distrib, same, BitVec.xor_self]

theorem and_not_or_and (x m : Word) : x &&& ~~~m ||| x &&& m = x := by
  ext k hk
  simp only [BitVec.getElem_or, BitVec.getElem_and, BitVec.getElem_not]
  cases x[k] <;> simp

/-- Taking a word's operands and a row's pattern gives the word back exactly where it fits the pattern. -/
theorem operands_or_pattern_eq_iff (r : OpcodeRow) {w : Word} (zeros : ∃ v, v &&& r.mask = r.pattern) :
    w &&& ~~~r.mask ||| r.pattern = w ↔ w &&& r.mask = r.pattern := by
  obtain ⟨v, fits⟩ := zeros
  refine ⟨fun same => ?_, fun fits => fits ▸ and_not_or_and w r.mask⟩
  rw [← same, ← fits]
  ext k hk
  simp only [BitVec.getElem_or, BitVec.getElem_and, BitVec.getElem_not]
  cases r.mask[k] <;> simp

/-! ### What the charts make of a word -/

/-- What the charts answer for a word, in the terms of R117 to R121: an instruction whose row's cell the word selects and
whose operands are the word's own, with the answer of the should-be-zero test, or a cell without an instruction. -/
inductive Charted (w : Word) : Decoded → Prop where
  | cell (i : Instr) (zero : Bool) (selects : i.row.selects w = true)
      (operands : encode i = (w &&& ~~~i.row.mask) ||| i.row.pattern) (strict : zero = true ↔ encode i = w) :
      Charted w (whenZero zero i)
  | reserved (cell : ReservedCell w) : Charted w .reserved
  | illegal (cell : IllegalCop0Cell w) : Charted w .illegalCop0

section
variable {w : Word}

/-- The reserved major opcodes (R120). -/
def reservedOp (op : Nat) : Bool :=
  decide (0b011000 ≤ op ∧ op ≤ 0b011111) || op == 0b100010 || op == 0b100110 || op == 0b100111 || op == 0b101010 ||
    decide (0b101100 ≤ op ∧ op ≤ 0b101111) || op == 0b110000 || op == 0b110100 || op == 0b111000 || op == 0b111100

/-- The reserved function codes of SPECIAL (R120). -/
def reservedFunct (funct : Nat) : Bool :=
  funct == 0b000001 || funct == 0b000101 || funct == 0b001010 || funct == 0b001011 || funct == 0b001110 ||
    decide (0b010100 ≤ funct ∧ funct ≤ 0b010111) || decide (0b011100 ≤ funct ∧ funct ≤ 0b011111) ||
    funct == 0b101000 || funct == 0b101001 || decide (0b101100 ≤ funct ∧ funct ≤ 0b101111) ||
    decide (0b110000 ≤ funct ∧ funct ≤ 0b111111)

/-- The reserved codes of REGIMM (R120). -/
def reservedRegimm (rt : Nat) : Bool :=
  decide (0b00100 ≤ rt ∧ rt ≤ 0b01111) || decide (0b10100 ≤ rt ∧ rt ≤ 0b11111)

/-- R120, field by field. -/
theorem reservedCell_iff :
    ReservedCell w ↔ reservedOp (opField w).toNat = true ∨
      (opField w = 0x00#6 ∧ reservedFunct (functField w).toNat = true) ∨
      (opField w = 0x01#6 ∧ reservedRegimm (rtField w).toNat = true) := by
  simp only [← BitVec.toNat_inj, toNat_opField, toNat_functField, toNat_rtField, ReservedCell, reservedOp, reservedFunct,
    reservedRegimm, Bool.or_eq_true, beq_iff_eq, decide_eq_true_eq, or_assoc]
  rfl

/-- R121, field by field. -/
theorem illegalCop0Cell_iff :
    IllegalCop0Cell w ↔ opField w = 0x10#6 ∧
      ((0b00001 ≤ (rsField w).toNat ∧ (rsField w).toNat ≤ 0b00011) ∨
        (0b00101 ≤ (rsField w).toNat ∧ (rsField w).toNat ≤ 0b01111) ∨
        (0b10000 ≤ (rsField w).toNat ∧ functField w ≠ 0x10#6 ∧ functField w ≠ 0x14#6)) := by
  simp only [← BitVec.toNat_inj, toNat_opField, toNat_rsField, toNat_functField, ne_eq, IllegalCop0Cell]
  rfl

/-- The cells of the major opcode chart that are not reserved (R111). -/
theorem reservedOp_of_not_mem : ∀ op : BitVec 6,
    op ∉ [0x00#6, 0x01#6, 0x02#6, 0x03#6, 0x04#6, 0x05#6, 0x06#6, 0x07#6, 0x08#6, 0x09#6, 0x0a#6, 0x0b#6, 0x0c#6,
      0x0d#6, 0x0e#6, 0x0f#6, 0x10#6, 0x11#6, 0x12#6, 0x13#6, 0x14#6, 0x15#6, 0x16#6, 0x17#6, 0x20#6, 0x21#6, 0x23#6,
      0x24#6, 0x25#6, 0x28#6, 0x29#6, 0x2b#6, 0x31#6, 0x32#6, 0x33#6, 0x35#6, 0x36#6, 0x37#6, 0x39#6, 0x3a#6, 0x3b#6,
      0x3d#6, 0x3e#6, 0x3f#6] → reservedOp op.toNat = true := by decide

/-- The cells of the SPECIAL chart that are not reserved (R112). -/
theorem reservedFunct_of_not_mem : ∀ funct : BitVec 6,
    funct ∉ [0x00#6, 0x02#6, 0x03#6, 0x04#6, 0x06#6, 0x07#6, 0x08#6, 0x09#6, 0x0c#6, 0x0d#6, 0x0f#6, 0x10#6, 0x11#6,
      0x12#6, 0x13#6, 0x18#6, 0x19#6, 0x1a#6, 0x1b#6, 0x20#6, 0x21#6, 0x22#6, 0x23#6, 0x24#6, 0x25#6, 0x26#6, 0x27#6,
      0x2a#6, 0x2b#6] → reservedFunct funct.toNat = true := by decide

/-- The cells of the REGIMM chart that are not reserved (R113). -/
theorem reservedRegimm_of_not_mem : ∀ rt : BitVec 5,
    rt ∉ [0x00#5, 0x01#5, 0x02#5, 0x03#5, 0x10#5, 0x11#5, 0x12#5, 0x13#5] → reservedRegimm rt.toNat = true := by
  decide

end

section
variable {w : Word} {i : Instr} {zero : Bool}

/-- A word that agrees with an instruction's on the chart's bits and on the operands is in the instruction's cell, with
the instruction's operands. `kept` names those bits. -/
theorem Charted.of_agrees (kept : Word) (bits : i.row.chart ||| ~~~i.row.mask = kept)
    (agrees : w &&& kept = encode i &&& kept) (strict : zero = true ↔ encode i = w) :
    Charted w (whenZero zero i) := by
  have row := row_mem_opcodeRows i
  have fits : encode i &&& i.row.mask = i.row.pattern := (OpcodeRow.conforms_iff ..).mp (conforms_encode i)
  have restrict : ∀ m : Word, kept &&& m = m → w &&& m = encode i &&& m := fun m inside => by
    rw [← inside, ← BitVec.and_assoc, ← BitVec.and_assoc, agrees]
  have chartBits : kept &&& i.row.chart = i.row.chart := by
    rw [← bits]; ext k hk
    simp only [BitVec.getElem_or, BitVec.getElem_and, BitVec.getElem_not]
    cases i.row.chart[k] <;> simp
  have operandBits : kept &&& ~~~i.row.mask = ~~~i.row.mask := by
    rw [← bits]; ext k hk
    simp only [BitVec.getElem_or, BitVec.getElem_and, BitVec.getElem_not]
    cases i.row.mask[k] <;> simp
  refine .cell i zero ?_ ?_ strict
  · have own := (OpcodeRow.selects_iff ..).mp (OpcodeRow.selects_of_conforms row (conforms_encode i))
    rw [OpcodeRow.selects_iff, restrict _ chartBits, own]
  · rw [restrict _ operandBits, ← fits, and_not_or_and]

/-- A cell without should-be-zero fields: the word is the instruction's. -/
theorem Charted.of_encode (encodes : encode i = w) : Charted w (.instr i) :=
  .of_agrees (zero := true) _ rfl (by rw [encodes]) (by simp [encodes])

/-- A cell of the R-type format: the instruction has the word's fields, or zeros where `kept` has none of their bits. -/
theorem Charted.of_rFields {rs rt rd shamt : BitVec 5} {funct : BitVec 6} (kept : Word)
    (bits : i.row.chart ||| ~~~i.row.mask = kept) (encodes : encode i = rType (opField w) rs rt rd shamt funct)
    (agrees : rsField w &&& rsField kept = rs &&& rsField kept ∧ rtField w &&& rtField kept = rt &&& rtField kept ∧
      rdField w &&& rdField kept = rd &&& rdField kept ∧ shamtField w &&& shamtField kept = shamt &&& shamtField kept ∧
      functField w &&& functField kept = funct &&& functField kept)
    (strict : zero = true ↔ rsField w = rs ∧ rtField w = rt ∧ rdField w = rd ∧ shamtField w = shamt ∧
      functField w = funct) : Charted w (whenZero zero i) := by
  obtain ⟨hrs, hrt, hrd, hshamt, hfunct⟩ := agrees
  refine .of_agrees kept bits ?_ ?_
  · simp only [word_eq_iff_rFields, encodes, opField_and, rsField_and, rtField_and, rdField_and, shamtField_and,
      functField_and, opField_rType, rsField_rType, rtField_rType, rdField_rType, shamtField_rType, functField_rType,
      hrs, hrt, hrd, hshamt, hfunct, and_self]
  · simp only [strict, word_eq_iff_rFields, encodes, opField_rType, rsField_rType, rtField_rType, rdField_rType,
      shamtField_rType, functField_rType, true_and]

/-- A cell of the I-type format, likewise. -/
theorem Charted.of_iFields {rs rt : BitVec 5} (kept : Word) (bits : i.row.chart ||| ~~~i.row.mask = kept)
    (encodes : encode i = iType (opField w) rs rt (immField w))
    (agrees : rsField w &&& rsField kept = rs &&& rsField kept ∧ rtField w &&& rtField kept = rt &&& rtField kept)
    (strict : zero = true ↔ rsField w = rs ∧ rtField w = rt) : Charted w (whenZero zero i) := by
  obtain ⟨hrs, hrt⟩ := agrees
  refine .of_agrees kept bits ?_ ?_
  · simp only [word_eq_iff_iFields, encodes, opField_and, rsField_and, rtField_and, immField_and, opField_iType,
      rsField_iType, rtField_iType, immField_iType, hrs, hrt, and_self]
  · simp only [strict, word_eq_iff_iFields, encodes, opField_iType, rsField_iType, rtField_iType, immField_iType,
      true_and, and_true]

theorem Charted.of_iType {op : BitVec 6} {rt : BitVec 5} (major : opField w = op) (hrt : rtField w = rt)
    (encodes : encode i = iType op (rsField w) rt (immField w)) : Charted w (.instr i) :=
  .of_encode (by rw [encodes, ← major, ← hrt, iType_fields])

theorem Charted.of_jType {op : BitVec 6} (major : opField w = op) (encodes : encode i = jType op (targetField w)) :
    Charted w (.instr i) :=
  .of_encode (by rw [encodes, ← major, jType_fields])

theorem Charted.of_codeType {op : BitVec 6} {f : BitVec 6} (major : opField w = op) (funct : functField w = f)
    (encodes : encode i = codeType op (codeField w) f) : Charted w (.instr i) :=
  .of_encode (by rw [encodes, ← major, ← funct, codeType_fields])

end

/-- The SPECIAL chart (R112): should-be-zero fields are rs of the shifts by amount, shamt of the three-register forms, and
every field but the operands of the others. -/
theorem decodeSpecial_charted {w : Word} (op : opField w = 0x00#6) : Charted w (decodeSpecial w) := by
  unfold decodeSpecial
  split
  case h_1 funct | h_2 funct | h_3 funct =>
    exact .of_rFields 0xfc1fffff#32 (by dsimp only [Instr.row]; decide) (by rw [op]; rfl)
      (by simp [funct, rsField]) (by simp [funct])
  case h_4 funct | h_5 funct | h_6 funct | h_20 funct | h_21 funct | h_22 funct | h_23 funct | h_24 funct | h_25 funct |
      h_26 funct | h_27 funct | h_28 funct | h_29 funct =>
    exact .of_rFields 0xfffff83f#32 (by dsimp only [Instr.row]; decide) (by rw [op]; rfl)
      (by simp [funct, shamtField]) (by simp [funct])
  case h_7 funct | h_13 funct | h_15 funct =>
    exact .of_rFields 0xffe0003f#32 (by dsimp only [Instr.row]; decide) (by rw [op]; rfl)
      (by simp [funct, rtField, rdField, shamtField]) (by simp [funct, and_assoc])
  case h_8 funct =>
    exact .of_rFields 0xffe0f83f#32 (by dsimp only [Instr.row]; decide) (by rw [op]; rfl)
      (by simp [funct, rtField, shamtField]) (by simp [funct])
  case h_12 funct | h_14 funct =>
    exact .of_rFields 0xfc00f83f#32 (by dsimp only [Instr.row]; decide) (by rw [op]; rfl)
      (by simp [funct, rsField, rtField, shamtField]) (by simp [funct, and_assoc])
  case h_16 funct | h_17 funct | h_18 funct | h_19 funct =>
    exact .of_rFields 0xffff003f#32 (by dsimp only [Instr.row]; decide) (by rw [op]; rfl)
      (by simp [funct, rdField, shamtField]) (by simp [funct])
  case h_9 funct | h_10 funct | h_11 funct => exact .of_codeType op funct rfl
  case h_30 =>
    exact .reserved (reservedCell_iff.mpr (.inr (.inl ⟨op, reservedFunct_of_not_mem _ (by simp_all)⟩)))

/-- The REGIMM chart (R113). -/
theorem decodeRegimm_charted {w : Word} (op : opField w = 0x01#6) : Charted w (decodeRegimm w) := by
  unfold decodeRegimm
  split
  case h_9 =>
    exact .reserved (reservedCell_iff.mpr (.inr (.inr ⟨op, reservedRegimm_of_not_mem _ (by simp_all)⟩)))
  all_goals exact .of_iType op ‹_› rfl

/-- The COP0 function chart (R115). -/
theorem decodeCop0Function_charted {w : Word} (op : opField w = 0x10#6) (high : (rsField w).msb = true) :
    Charted w (decodeCop0Function w) := by
  have fixedBit : rsField w &&& 0x10#5 = 0x10#5 := by
    revert high
    generalize rsField w = rs
    revert rs
    decide
  have keptRs : rsField 0xfe00003f#32 = 0x10#5 := by decide
  unfold decodeCop0Function
  split
  case h_1 funct | h_2 funct =>
    exact .of_rFields 0xfe00003f#32 (by decide) (by rw [op]; rfl)
      (by simp [keptRs, fixedBit, funct, rtField, rdField, shamtField]) (by simp [funct, and_assoc])
  case h_3 =>
    have upper := BitVec.msb_eq_true_iff_two_mul_ge.mp high
    exact .illegal (illegalCop0Cell_iff.mpr ⟨op, .inr (.inr ⟨by omega, ‹_›, ‹_›⟩)⟩)

/-- The COP0 rs chart (R114). -/
theorem decodeCop0_charted {w : Word} (op : opField w = 0x10#6) : Charted w (decodeCop0 w) := by
  unfold decodeCop0
  split
  case isTrue high => exact decodeCop0Function_charted op high
  case isFalse low =>
    split
    case h_1 rs | h_2 rs =>
      exact .of_rFields 0xfffff800#32 (by dsimp only [Instr.row]; decide) (by rw [op]; rfl)
        (by simp [rs, shamtField, functField]) (by simp [rs])
    case h_3 =>
      have between : ∀ rs : BitVec 5, ¬rs.msb = true → rs ≠ 0x00#5 → rs ≠ 0x04#5 →
          (0b00001 ≤ rs.toNat ∧ rs.toNat ≤ 0b00011) ∨ (0b00101 ≤ rs.toNat ∧ rs.toNat ≤ 0b01111) := by decide
      refine .illegal (illegalCop0Cell_iff.mpr ⟨op, ?_⟩)
      exact (between _ low ‹_› ‹_›).imp_right .inl

/-- The charts together (R110, R111). -/
theorem decode_charted (w : Word) : Charted w (decode w) := by
  unfold decode
  split
  case h_1 op => exact decodeSpecial_charted op
  case h_2 op => exact decodeRegimm_charted op
  case h_17 op => exact decodeCop0_charted op
  case h_7 op | h_8 op | h_23 op | h_24 op =>
    exact .of_iFields 0xffe0ffff#32 (by dsimp only [Instr.row]; decide) (by rw [op]; rfl) (by simp [rtField]) (by simp)
  case h_16 op =>
    exact .of_iFields 0xfc1fffff#32 (by dsimp only [Instr.row]; decide) (by rw [op]; rfl) (by simp [rsField]) (by simp)
  case h_3 op | h_4 op | h_18 op | h_19 op | h_20 op | h_33 op | h_34 op | h_35 op | h_36 op | h_37 op | h_38 op | h_39 op |
      h_40 op | h_41 op | h_42 op | h_43 op | h_44 op =>
    exact .of_jType op rfl
  case h_45 =>
    exact .reserved (reservedCell_iff.mpr (.inl (reservedOp_of_not_mem _ (by simp_all))))
  all_goals exact .of_iType ‹_› rfl rfl

/-! ### The cases of a word -/

section
variable {w : Word} {i j : Instr} {zero : Bool}

theorem whenZero_eq_instr_iff : whenZero zero i = .instr j ↔ zero = true ∧ i = j := by
  cases zero <;> simp [whenZero]

theorem whenZero_eq_shouldBeZero_iff : whenZero zero i = .shouldBeZero j ↔ zero = false ∧ i = j := by
  cases zero <;> simp [whenZero]

theorem whenZero_ne_reserved : whenZero zero i ≠ .reserved := by
  cases zero <;> simp [whenZero]

theorem whenZero_ne_illegalCop0 : whenZero zero i ≠ .illegalCop0 := by
  cases zero <;> simp [whenZero]

/-- The word is in the cell of `i`: it selects `i`'s row, has `i`'s operands, and is `i`'s word where it fits the row. -/
structure InCell (w : Word) (i : Instr) : Prop where
  decodes : decode w = whenZero (i.row.conforms w) i
  selects : i.row.selects w = true
  operands : encode i = (w &&& ~~~i.row.mask) ||| i.row.pattern

/-- Every word is in a cell: an instruction's, a reserved one or an illegal one. -/
theorem decode_cases (w : Word) :
    (∃ i, InCell w i) ∨ (decode w = .reserved ∧ ReservedCell w) ∨ (decode w = .illegalCop0 ∧ IllegalCop0Cell w) := by
  have charted := decode_charted w
  generalize hd : decode w = d at charted
  cases charted with
  | cell i zero selects operands strict =>
    have fits : encode i &&& i.row.mask = i.row.pattern := (OpcodeRow.conforms_iff ..).mp (conforms_encode i)
    have own : encode i = w ↔ i.row.conforms w = true := by
      rw [operands, operands_or_pattern_eq_iff _ ⟨_, fits⟩, OpcodeRow.conforms_iff]
    have test : zero = i.row.conforms w := Bool.eq_iff_iff.mpr (strict.trans own)
    exact .inl ⟨i, hd.trans (by rw [test]), selects, operands⟩
  | reserved cell => exact .inr (.inl ⟨rfl, cell⟩)
  | illegal cell => exact .inr (.inr ⟨rfl, cell⟩)

theorem inCell_of_decode (decodes : decode w = .instr i ∨ decode w = .shouldBeZero i) : InCell w i := by
  obtain ⟨j, cell⟩ | ⟨reserved, -⟩ | ⟨illegal, -⟩ := decode_cases w
  · rw [cell.decodes, whenZero_eq_instr_iff, whenZero_eq_shouldBeZero_iff] at decodes
    obtain ⟨-, rfl⟩ | ⟨-, rfl⟩ := decodes
    · exact cell
    · exact cell
  · simp [reserved] at decodes
  · simp [illegal] at decodes

theorem InCell.conforms_of_instr (cell : InCell w i) (decodes : decode w = .instr i) : i.row.conforms w = true := by
  rw [cell.decodes, whenZero_eq_instr_iff] at decodes
  exact decodes.1

theorem InCell.not_conforms_of_shouldBeZero (cell : InCell w i) (decodes : decode w = .shouldBeZero i) :
    i.row.conforms w = false := by
  rw [cell.decodes, whenZero_eq_shouldBeZero_iff] at decodes
  exact decodes.1

/-- Settles O2: a word that decodes to an instruction has its operands and fits its row's pattern, which is all of it. -/
theorem encodeOfDecode : Obligations.EncodeOfDecode := by
  intro w i decodes
  have cell := inCell_of_decode (.inl decodes)
  have fits := (OpcodeRow.conforms_iff ..).mp (cell.conforms_of_instr decodes)
  rw [cell.operands, ← fits, and_not_or_and]

/-- Settles O4: the word is in its instruction's cell, and fails the row's full pattern. -/
theorem shouldBeZeroOperands : Obligations.ShouldBeZeroOperands := by
  intro w i decodes
  have cell := inCell_of_decode (.inr decodes)
  exact ⟨cell.selects, cell.not_conforms_of_shouldBeZero decodes, cell.operands⟩

/-- A field that a row's chart decides on whole is the pattern's. -/
theorem opField_of_selects {r : OpcodeRow} (row : r ∈ opcodeRows) (selects : r.selects w = true) :
    opField w = opField r.pattern := by
  have major : ∀ r ∈ opcodeRows, opField r.chart = 0x3f#6 := by decide
  have whole : ∀ x : BitVec 6, x &&& 0x3f#6 = x := by decide
  have same := congrArg opField ((OpcodeRow.selects_iff ..).mp selects)
  rwa [opField_and, opField_and, major r row, whole, whole] at same

theorem functField_of_selects {r : OpcodeRow} (chart : functField r.chart = 0x3f#6) (selects : r.selects w = true) :
    functField w = functField r.pattern := by
  have whole : ∀ x : BitVec 6, x &&& 0x3f#6 = x := by decide
  have same := congrArg functField ((OpcodeRow.selects_iff ..).mp selects)
  rwa [functField_and, functField_and, chart, whole, whole] at same

theorem rtField_of_selects {r : OpcodeRow} (chart : rtField r.chart = 0x1f#5) (selects : r.selects w = true) :
    rtField w = rtField r.pattern := by
  have whole : ∀ x : BitVec 5, x &&& 0x1f#5 = x := by decide
  have same := congrArg rtField ((OpcodeRow.selects_iff ..).mp selects)
  rwa [rtField_and, rtField_and, chart, whole, whole] at same

/-- No row's cell is a reserved one. -/
theorem not_reservedCell_of_selects {r : OpcodeRow} (row : r ∈ opcodeRows) (selects : r.selects w = true) :
    ¬ReservedCell w := by
  have majors : ∀ r ∈ opcodeRows, ¬reservedOp (opField r.pattern).toNat = true := by decide
  have special : ∀ r ∈ opcodeRows, opField r.pattern = 0x00#6 →
      functField r.chart = 0x3f#6 ∧ ¬reservedFunct (functField r.pattern).toNat = true := by decide
  have regimm : ∀ r ∈ opcodeRows, opField r.pattern = 0x01#6 →
      rtField r.chart = 0x1f#5 ∧ ¬reservedRegimm (rtField r.pattern).toNat = true := by decide
  rw [reservedCell_iff, opField_of_selects row selects]
  rintro (reserved | ⟨op, reserved⟩ | ⟨op, reserved⟩)
  · exact majors r row reserved
  · obtain ⟨chart, free⟩ := special r row op
    exact free (functField_of_selects chart selects ▸ reserved)
  · obtain ⟨chart, free⟩ := regimm r row op
    exact free (rtField_of_selects chart selects ▸ reserved)

/-- The charts answer "illegal" for every word of R121: none of them is in a cell of the rs chart or, with bit 25 set, of
the function chart. -/
theorem decode_of_illegalCop0Cell (cell : IllegalCop0Cell w) : decode w = .illegalCop0 := by
  obtain ⟨op, form⟩ := illegalCop0Cell_iff.mp cell
  rw [decode_of_opField_cop0 op]
  obtain below | below | ⟨upper, notRfe, notIcinv⟩ := form
  case inr.inr =>
    have high : (rsField w).msb = true := BitVec.msb_eq_true_iff_two_mul_ge.mpr (by omega)
    simp [decodeCop0, decodeCop0Function, high]
  all_goals
    have low : (rsField w).msb = false := BitVec.msb_eq_false_iff_two_mul_lt.mpr (by omega)
    have notMfc0 : rsField w ≠ 0x00#5 := fun rs => by simp [rs] at below
    have notMtc0 : rsField w ≠ 0x04#5 := fun rs => by simp [rs] at below
    simp [decodeCop0, low]

/-- A word in no instruction's cell and not illegal is reserved. -/
theorem decode_of_reservedCell (reserved : ReservedCell w) : decode w = .reserved := by
  obtain ⟨i, cell⟩ | ⟨decodes, -⟩ | ⟨-, illegal⟩ := decode_cases w
  · exact absurd reserved (not_reservedCell_of_selects (row_mem_opcodeRows i) cell.selects)
  · exact decodes
  · have cop0 : reservedOp 16 = false := by decide
    simp [reservedCell_iff, (illegalCop0Cell_iff.mp illegal).1, cop0] at reserved

/-- No row's cell is an illegal one: the four COP0 rows have rs 0 or 4, or have bit 25 set with their own funct. -/
theorem not_illegalCop0Cell_of_selects {r : OpcodeRow} (row : r ∈ opcodeRows) (selects : r.selects w = true) :
    ¬IllegalCop0Cell w := by
  have cop0 : ∀ r ∈ opcodeRows, opField r.pattern = 0x10#6 →
      (rsField r.chart = 0x1f#5 ∧ (rsField r.pattern = 0x00#5 ∨ rsField r.pattern = 0x04#5)) ∨
        (rsField r.chart = 0x10#5 ∧ rsField r.pattern = 0x10#5 ∧ functField r.chart = 0x3f#6 ∧
          (functField r.pattern = 0x10#6 ∨ functField r.pattern = 0x14#6)) := by decide
  have whole : ∀ x : BitVec 5, x &&& 0x1f#5 = x := by decide
  have upper : ∀ x : BitVec 5, x &&& 0x10#5 = 0x10#5 → 0b10000 ≤ x.toNat := by decide
  rw [illegalCop0Cell_iff, opField_of_selects row selects]
  rintro ⟨op, illegal⟩
  have same := congrArg rsField ((OpcodeRow.selects_iff ..).mp selects)
  rw [rsField_and, rsField_and] at same
  obtain ⟨chart, pattern⟩ | ⟨chart, pattern, functChart, funct⟩ := cop0 r row op
  · rw [chart, whole, whole] at same
    rw [same] at illegal
    obtain pattern | pattern := pattern <;> simp [pattern] at illegal
  · rw [chart, pattern] at same
    rw [functField_of_selects functChart selects] at illegal
    have := upper _ same
    obtain below | below | ⟨-, notRfe, notIcinv⟩ := illegal
    · omega
    · omega
    · exact funct.elim notRfe notIcinv

/-- A word that selects a row is in the cell of one of the row's instructions. -/
theorem inCell_of_selects {r : OpcodeRow} (row : r ∈ opcodeRows) (selects : r.selects w = true) :
    ∃ i, InCell w i ∧ i.row = r := by
  obtain ⟨i, cell⟩ | ⟨-, reserved⟩ | ⟨-, illegal⟩ := decode_cases w
  · exact ⟨i, cell, OpcodeRow.eq_of_selects (row_mem_opcodeRows i) row cell.selects selects⟩
  · exact absurd reserved (not_reservedCell_of_selects row selects)
  · exact absurd illegal (not_illegalCop0Cell_of_selects row selects)

theorem wellFormedWord_iff : wellFormedWord w = true ↔ ∃ r ∈ opcodeRows, r.conforms w = true := List.any_eq_true

/-- A word decodes to an instruction exactly where it fits a row's full pattern. -/
theorem decode_instr_iff : (∃ i, decode w = .instr i) ↔ wellFormedWord w = true := by
  rw [wellFormedWord_iff]
  constructor
  · rintro ⟨i, decodes⟩
    exact ⟨i.row, row_mem_opcodeRows i, (inCell_of_decode (.inl decodes)).conforms_of_instr decodes⟩
  · rintro ⟨r, row, fits⟩
    obtain ⟨i, cell, rfl⟩ := inCell_of_selects row (OpcodeRow.selects_of_conforms row fits)
    exact ⟨i, by rw [cell.decodes, fits]; rfl⟩

/-- A word is in the should-be-zero case exactly where it selects a row and fits none. -/
theorem decode_shouldBeZero_iff :
    (∃ i, decode w = .shouldBeZero i) ↔
      wellFormedWord w = false ∧ ∃ r ∈ opcodeRows, r.selects w = true ∧ r.conforms w = false := by
  constructor
  · rintro ⟨i, decodes⟩
    have cell := inCell_of_decode (.inr decodes)
    refine ⟨?_, i.row, row_mem_opcodeRows i, cell.selects, cell.not_conforms_of_shouldBeZero decodes⟩
    rw [← Bool.not_eq_true, ← decode_instr_iff, decodes]
    simp
  · rintro ⟨-, r, row, selects, unfit⟩
    obtain ⟨i, cell, rfl⟩ := inCell_of_selects row selects
    exact ⟨i, by rw [cell.decodes, unfit]; rfl⟩

/-- Settles O3: the four cases, each by its own list. That they exclude each other is `decode`'s being a function. -/
theorem decodePartition : Obligations.DecodePartition := by
  intro w
  refine ⟨decode_instr_iff, decode_shouldBeZero_iff, ⟨fun decodes => ?reserved, decode_of_reservedCell⟩,
    ⟨fun decodes => ?illegal, decode_of_illegalCop0Cell⟩⟩
  case reserved =>
    obtain ⟨i, cell⟩ | ⟨-, reserved⟩ | ⟨illegal, -⟩ := decode_cases w
    · exact absurd (cell.decodes.symm.trans decodes) whenZero_ne_reserved
    · exact reserved
    · simp [illegal] at decodes
  case illegal =>
    obtain ⟨i, cell⟩ | ⟨reserved, -⟩ | ⟨-, illegal⟩ := decode_cases w
    · exact absurd (cell.decodes.symm.trans decodes) whenZero_ne_illegalCop0
    · simp [reserved] at decodes
    · exact illegal

/-- Settles O5, by evaluation of the decoder on each word. -/
theorem sampleWordsDecode : Obligations.SampleWordsDecode := by
  unfold Obligations.SampleWordsDecode
  decide

end

end Sys2Proof.Machine
end

section
/-! What an instruction is made of, said once: its meaning is one of the shared shapes of Machine/Ops.lean, over values
that are functions of the state. Proofs of the obligations that follow from that classification alone: every
instruction runs, and a jump or branch in a delay slot is refused. -/

namespace Sys2Proof

open Sys2Proof.Machine

/-- The value is the same in two states that user mode without `CU[0]` cannot tell apart. -/
def SeesAlike {α : Type} (value : State → α) : Prop := ∀ s s', UserView s s' → value s' = value s

/-- The same of a value loaded from `n` bytes, where user mode may make the access. -/
def LoadsAlike (n : Nat) (value : State → Word → Word) : Prop :=
  ∀ s s' a, UserView s s' → s.status.kuC = true → DataAllowed s n a → value s' a = value s a

/-- The bytes of an aligned access that starts in kuseg are in kuseg: it does not run over the top of the addresses. -/
theorem DataAllowed.kuseg_add {s : State} {n : Nat} {a : Word} (allowed : DataAllowed s n a)
    (size : n = 1 ∨ n = 2 ∨ n = 4) (user : s.status.kuC = true) {k : Nat} (inside : k < n) :
    2 ^ 31 ≤ (a + BitVec.ofNat 32 k).toNat := by
  obtain ⟨aligned, kuseg⟩ := allowed
  have above := kuseg user
  have below := a.isLt
  rw [BitVec.toNat_add, BitVec.toNat_ofNat]
  obtain rfl | rfl | rfl := size <;> omega

namespace UserView
variable {s s' : State}

theorem reg (view : UserView s s') (r : RegNo) : s'.reg r = s.reg r := view.regs r

theorem pc (view : UserView s s') : s'.pc = s.pc := view.flow.1

theorem hi (view : UserView s s') : s'.hi = s.hi := view.hiLo.1

theorem lo (view : UserView s s') : s'.lo = s.lo := view.hiLo.2

/-- The `k`-th byte of an access that user mode may make reads alike. -/
theorem readByte_add (view : UserView s s') {n : Nat} {a : Word} (allowed : DataAllowed s n a)
    (size : n = 1 ∨ n = 2 ∨ n = 4) (user : s.status.kuC = true) {k : Nat} (inside : k < n) :
    s'.readByte (a + BitVec.ofNat 32 k) = s.readByte (a + BitVec.ofNat 32 k) :=
  view.kuseg _ (allowed.kuseg_add size user inside)

theorem readByte (view : UserView s s') {a : Word} (allowed : DataAllowed s 1 a) (user : s.status.kuC = true) :
    s'.readByte a = s.readByte a := by
  simpa using view.readByte_add allowed (by simp) user (k := 0) (by omega)

theorem readHalf (view : UserView s s') {a : Word} (allowed : DataAllowed s 2 a) (user : s.status.kuC = true) :
    s'.readHalf a = s.readHalf a := by
  have byte : ∀ k < 2, _ := fun k => view.readByte_add allowed (by simp) user (k := k)
  have first := byte 0 (by omega)
  rw [show BitVec.ofNat 32 0 = 0#32 from rfl, BitVec.add_zero] at first
  rw [State.readHalf, State.readHalf, first, byte 1 (by omega)]

theorem readWord (view : UserView s s') {a : Word} (allowed : DataAllowed s 4 a) (user : s.status.kuC = true) :
    s'.readWord a = s.readWord a := by
  have byte : ∀ k < 4, _ := fun k => view.readByte_add allowed (by simp) user (k := k)
  have first := byte 0 (by omega)
  rw [show BitVec.ofNat 32 0 = 0#32 from rfl, BitVec.add_zero] at first
  rw [State.readWord, State.readWord, first, byte 1 (by omega), byte 2 (by omega), byte 3 (by omega)]

end UserView

end Sys2Proof

namespace Sys2Proof.Machine

/-! ### The shapes of the meanings -/

/-- The state after the link register is written, where the jump or branch has one (R234, R236, R249). -/
def State.linked (s : State) : Option RegNo → State
  | none => s
  | some r => s.link r

/-- The shape of an instruction's meaning: the shared operation that `exec` answers with, at every state. -/
inductive Meaning : Instr → Prop where
  | load {i : Instr} {n : Nat} {value : State → Word → Word} {rt rs : RegNo} {imm : BitVec 16}
      (run : ∀ s, exec i s = s.load n value rt rs imm) (size : n = 1 ∨ n = 2 ∨ n = 4) (sees : LoadsAlike n value) :
      Meaning i
  | store {i : Instr} {n : Nat} {bytes : Word → List Byte} {rt rs : RegNo} {imm : BitVec 16}
      (run : ∀ s, exec i s = s.store n (fun s ea v => s.storeBytes ea (bytes v)) rt rs imm)
      (size : n = 1 ∨ n = 2 ∨ n = 4) : Meaning i
  | finish {i : Instr} {r : RegNo} {value : State → Word} (run : ∀ s, exec i s = s.finish r (value s))
      (sees : SeesAlike value) : Meaning i
  | finishUnless {i : Instr} {overflow : State → Bool} {r : RegNo} {value : State → Word}
      (run : ∀ s, exec i s = s.finishUnless (overflow s) r (value s)) (seesOverflow : SeesAlike overflow)
      (sees : SeesAlike value) : Meaning i
  | hiLo {i : Instr} {hi lo : State → Word} (run : ∀ s, exec i s = s.finishHiLo (hi s) (lo s)) (seesHi : SeesAlike hi)
      (seesLo : SeesAlike lo) : Meaning i
  | jump {i : Instr} (transfers : IsTransfer i) (link : Option RegNo) (target : BitVec 26)
      (run : ∀ s, exec i s = s.transfer ((s.linked link).branchTo (jumpTarget s.pc target))) : Meaning i
  | jumpRegister {i : Instr} (transfers : IsTransfer i) (link : Option RegNo) (rs : RegNo)
      (names : i = .jr rs ∨ ∃ rd, i = .jalr rd rs)
      (run : ∀ s, exec i s = s.transfer ((s.linked link).branchTo (s.reg rs))) : Meaning i
  | branch {i : Instr} (transfers : IsTransfer i) (link : Option RegNo) {taken : State → Bool} {imm : BitVec 16}
      (run : ∀ s, exec i s = s.transfer ((s.linked link).branchIf (taken s) imm)) (sees : SeesAlike taken) : Meaning i
  | branchLikely {i : Instr} (transfers : IsTransfer i) (link : Option RegNo) {taken : State → Bool} {imm : BitVec 16}
      (run : ∀ s, exec i s = s.transfer ((s.linked link).branchLikelyIf (taken s) imm)) (sees : SeesAlike taken) :
      Meaning i
  | mfc0 (rt : RegNo) (rd : Cp0No) : Meaning (.mfc0 rt rd)
  | mtc0 (rt : RegNo) (rd : Cp0No) : Meaning (.mtc0 rt rd)
  | rfe : Meaning .rfe
  | icinv : Meaning .icinv
  | raise {i : Instr} {e : Exc} (run : ∀ s, exec i s = s.raise e) : Meaning i

/-- A divide is one shape with or without a result (R213, R214). -/
theorem State.finishHiLo_ite (s : State) (c : Bool) (hi lo hi' lo' : Word) :
    (if c then s.finishHiLo hi lo else s.finishHiLo hi' lo') =
      s.finishHiLo (if c then hi else hi') (if c then lo else lo') := by
  cases c <;> rfl

/-- Every instruction's meaning has one of the shapes. -/
theorem meaning (i : Instr) : Meaning i := by
  cases i
  case lb rt rs imm =>
    exact .load (exec_lb · rt rs imm) (by simp) fun s s' a view user allowed => by
      simp only [view.readByte allowed user]
  case lbu rt rs imm =>
    exact .load (exec_lbu · rt rs imm) (by simp) fun s s' a view user allowed => by
      simp only [view.readByte allowed user]
  case lh rt rs imm =>
    exact .load (exec_lh · rt rs imm) (by simp) fun s s' a view user allowed => by
      simp only [view.readHalf allowed user]
  case lhu rt rs imm =>
    exact .load (exec_lhu · rt rs imm) (by simp) fun s s' a view user allowed => by
      simp only [view.readHalf allowed user]
  case lw rt rs imm =>
    exact .load (exec_lw · rt rs imm) (by simp) fun s s' a view user allowed => view.readWord allowed user
  case sb => exact .store (bytes := fun v => [lowByte v]) (fun _ => rfl) (by simp)
  case sh =>
    exact .store (bytes := fun v => [(lowHalf v).extractLsb' 8 8, (lowHalf v).extractLsb' 0 8]) (fun _ => rfl) (by simp)
  case sw => exact .store (bytes := bytesOfWord) (fun _ => rfl) (by simp)
  case addi | add | sub =>
    exact .finishUnless (fun _ => rfl) (fun s s' view => by simp only [view.reg])
      (fun s s' view => by simp only [view.reg])
  case addiu | slti | sltiu | andi | ori | xori | lui | sll | srl | sra | sllv | srlv | srav | addu | subu | and | or |
      xor | nor | slt | sltu =>
    exact .finish (fun _ => rfl) (fun s s' view => by simp only [view.reg])
  case mfhi => exact .finish (fun _ => rfl) (fun s s' view => view.hi)
  case mflo => exact .finish (fun _ => rfl) (fun s s' view => view.lo)
  case mthi rs => exact .hiLo (exec_mthi · rs) (fun s s' view => view.reg rs) (fun s s' view => view.lo)
  case mtlo rs => exact .hiLo (exec_mtlo · rs) (fun s s' view => view.hi) (fun s s' view => view.reg rs)
  case mult | multu =>
    exact .hiLo (fun _ => rfl) (fun s s' view => by simp only [view.reg]) (fun s s' view => by simp only [view.reg])
  case div | divu =>
    exact .hiLo (fun s => s.finishHiLo_ite ..) (fun s s' view => by simp only [view.reg, view.draws])
      (fun s s' view => by simp only [view.reg, view.draws])
  case j target => exact .jump ⟨0, 0, 0, 0, target, by simp [transferForms]⟩ none target (fun _ => rfl)
  case jal target => exact .jump ⟨0, 0, 0, 0, target, by simp [transferForms]⟩ (some 31#5) target (fun _ => rfl)
  case jr rs => exact .jumpRegister ⟨0, rs, 0, 0, 0, by simp [transferForms]⟩ none rs (.inl rfl) (fun _ => rfl)
  case jalr rd rs =>
    exact .jumpRegister ⟨rd, rs, 0, 0, 0, by simp [transferForms]⟩ (some rd) rs (.inr ⟨rd, rfl⟩) (fun _ => rfl)
  case beq rs rt imm | bne rs rt imm =>
    exact .branch ⟨0, rs, rt, imm, 0, by simp [transferForms]⟩ none (fun _ => rfl)
      (fun s s' view => by simp only [view.reg])
  case blez rs imm | bgtz rs imm | bltz rs imm | bgez rs imm =>
    exact .branch ⟨0, rs, 0, imm, 0, by simp [transferForms]⟩ none (fun _ => rfl)
      (fun s s' view => by simp only [view.reg])
  case bltzal rs imm | bgezal rs imm =>
    exact .branch ⟨0, rs, 0, imm, 0, by simp [transferForms]⟩ (some 31#5) (fun _ => rfl)
      (fun s s' view => by simp only [view.reg])
  case beql rs rt imm | bnel rs rt imm =>
    exact .branchLikely ⟨0, rs, rt, imm, 0, by simp [transferForms]⟩ none (fun _ => rfl)
      (fun s s' view => by simp only [view.reg])
  case blezl rs imm | bgtzl rs imm | bltzl rs imm | bgezl rs imm =>
    exact .branchLikely ⟨0, rs, 0, imm, 0, by simp [transferForms]⟩ none (fun _ => rfl)
      (fun s s' view => by simp only [view.reg])
  case bltzall rs imm | bgezall rs imm =>
    exact .branchLikely ⟨0, rs, 0, imm, 0, by simp [transferForms]⟩ (some 31#5) (fun _ => rfl)
      (fun s s' view => by simp only [view.reg])
  case mfc0 rt rd => exact .mfc0 rt rd
  case mtc0 rt rd => exact .mtc0 rt rd
  case rfe => exact .rfe
  case icinv => exact .icinv
  all_goals exact .raise (fun _ => rfl)

/-! ### Every instruction runs -/

section
variable (s : State)

theorem State.exists_load_eq_next (n : Nat) (value : State → Word → Word) (rt rs : RegNo) (imm : BitVec 16) :
    ∃ t, s.load n value rt rs imm = .next t := by
  simp only [State.load, State.raise, State.finish]
  split <;> exact ⟨_, rfl⟩

theorem State.exists_store_eq_next (n : Nat) (write : State → Word → Word → State) (rt rs : RegNo) (imm : BitVec 16) :
    ∃ t, s.store n write rt rs imm = .next t := by
  simp only [State.store, State.raise]
  split <;> exact ⟨_, rfl⟩

theorem State.exists_finishUnless_eq_next (overflow : Bool) (r : RegNo) (v : Word) :
    ∃ t, s.finishUnless overflow r v = .next t := by
  simp only [State.finishUnless, State.raise, State.finish]
  split <;> exact ⟨_, rfl⟩

theorem State.exists_withCop0_eq_next (u : State) : ∃ t, s.withCop0 (.next u) = .next t := by
  simp only [State.withCop0, State.raise]
  split <;> exact ⟨_, rfl⟩

theorem State.transfer_of_outside {s : State} (outside : s.ds = false) (after : State) :
    s.transfer after = .next after := by
  simp [State.transfer, outside]

theorem State.transfer_of_delaySlot {s : State} (slot : s.ds = true) (after : State) :
    s.transfer after = .refused .branchInDelaySlot := by
  simp [State.transfer, slot]

end

/-- Each of the twenty jumps and branches is a transfer to some state. -/
theorem exec_transfer {i : Instr} (transfers : IsTransfer i) (s : State) : ∃ after, exec i s = s.transfer after := by
  obtain ⟨rd, rs, rt, imm, target, form⟩ := transfers
  simp only [transferForms, List.mem_cons, List.not_mem_nil, or_false] at form
  obtain rfl | rfl | rfl | rfl | rfl | rfl | rfl | rfl | rfl | rfl | rfl | rfl | rfl | rfl | rfl | rfl | rfl | rfl | rfl |
    rfl := form
  all_goals exact ⟨_, rfl⟩

theorem exec_transfer_of_delaySlot {i : Instr} (transfers : IsTransfer i) {s : State} (slot : s.ds = true) :
    exec i s = .refused .branchInDelaySlot := by
  obtain ⟨after, run⟩ := exec_transfer transfers s
  rw [run, State.transfer_of_delaySlot slot]

/-- Outside a delay slot every instruction answers a next state, in one every instruction but a jump or branch. -/
theorem exists_exec_eq_next {i : Instr} {s : State} (runs : s.ds = false ∨ ¬IsTransfer i) : ∃ t, exec i s = .next t := by
  cases meaning i with
  | load run => exact run s ▸ s.exists_load_eq_next ..
  | store run => exact run s ▸ s.exists_store_eq_next ..
  | finish run => exact ⟨_, run s⟩
  | finishUnless run => exact run s ▸ s.exists_finishUnless_eq_next ..
  | hiLo run => exact ⟨_, run s⟩
  | jump transfers _ _ run | jumpRegister transfers _ _ _ run | branch transfers _ run | branchLikely transfers _ run =>
    have outside : s.ds = false := runs.resolve_right (not_not_intro transfers)
    exact ⟨_, (run s).trans (State.transfer_of_outside outside _)⟩
  | mfc0 | mtc0 | rfe | icinv => exact s.exists_withCop0_eq_next _
  | raise run => exact ⟨_, run s⟩

/-- Settles O54: by the shapes of the meanings, of which only the transfers look at the delay slot. -/
theorem everyInstructionRuns : Obligations.EveryInstructionRuns :=
  fun _ _ => ⟨exists_exec_eq_next, fun slot transfers => exec_transfer_of_delaySlot transfers slot⟩

/-- Settles O46: each of the twenty is a transfer, and a transfer in a delay slot is refused. -/
theorem transferInDelaySlot : Obligations.TransferInDelaySlot := by
  intro s rd rs rt imm target slot i form
  refine exec_transfer_of_delaySlot ⟨rd, rs, rt, imm, target, ?_⟩ slot
  have sameForms : ∀ a ∈ [Instr.j target, .jal target, .jr rs, .jalr rd rs, .beq rs rt imm, .bne rs rt imm,
      .blez rs imm, .bgtz rs imm, .beql rs rt imm, .bnel rs rt imm, .blezl rs imm, .bgtzl rs imm, .bltz rs imm,
      .bgez rs imm, .bltzl rs imm, .bgezl rs imm, .bltzal rs imm, .bgezal rs imm, .bltzall rs imm, .bgezall rs imm],
      a ∈ transferForms rd rs rt imm target := by
    simp [transferForms]
  exact sameForms i form

end Sys2Proof.Machine
end

section
/-! Proofs of the obligations of spec/30_encoding.md section 4 and of spec/20_memory.md about the fetch: what a step does
with each of the four cases of a word, what it does at the fetch, and where it is refused. -/

namespace Sys2Proof.Machine

/-! ### The four cases of a word, run -/

section
variable {s : State} {w : Word} {i : Instr}

theorem State.runWord_of_instr (decodes : decode w = .instr i) : s.runWord w = exec i s := by
  simp only [State.runWord, decodes]

theorem State.runWord_of_shouldBeZero (decodes : decode w = .shouldBeZero i) : s.runWord w = s.runShouldBeZero w i := by
  simp only [State.runWord, decodes]

theorem State.runWord_of_reserved (decodes : decode w = .reserved) : s.runWord w = s.raise .ri := by
  simp only [State.runWord, decodes]

theorem State.runWord_of_illegalCop0 (decodes : decode w = .illegalCop0) :
    s.runWord w = s.withCop0 (.refused .illegalCop0) := by
  simp only [State.runWord, decodes]

/-- The major opcode COP0, as the model tests it. -/
theorem isCop0Word_iff : isCop0Word w = true ↔ w.toNat / 2 ^ 26 = 0b010000 := by
  rw [isCop0Word, beq_iff_eq, ← BitVec.toNat_inj, toNat_opField]
  rfl

/-- Once the usability test has passed, the policy alone decides (R118). -/
theorem State.runShouldBeZero_of_passed (i : Instr) (passed : w.toNat / 2 ^ 26 ≠ 0b010000 ∨ Cop0Allowed s) :
    (s.params.sbz = .refuse → s.runShouldBeZero w i = .refused .shouldBeZero) ∧
      (s.params.sbz = .ignore → s.runShouldBeZero w i = exec i s) ∧
      (s.params.sbz = .ri → s.runShouldBeZero w i = s.raise .ri) := by
  have untested : ¬(isCop0Word w && !s.cop0Usable) = true := by
    rw [Bool.and_eq_true, isCop0Word_iff, Bool.not_eq_true', ← Bool.not_eq_true, State.cop0Usable_iff]
    exact fun ⟨major, denied⟩ => passed.elim (· major) denied
  refine ⟨fun policy => ?_, fun policy => ?_, fun policy => ?_⟩
  all_goals simp only [State.runShouldBeZero, if_neg untested, policy]

end

theorem decode_of_syncCell {w : Word} (cell : SyncCell w) : decode w = .instr (.sync (codeField w)) := by
  obtain ⟨major, funct⟩ := cell
  have op : opField w = 0x00#6 := opField_of_toNat_div major
  have sync : functField w = 0x0f#6 := BitVec.eq_of_toNat_eq ((toNat_functField w).trans funct)
  simp only [decode_of_opField_special op, decodeSpecial, sync]

/-- Settles O6: the charts answer "reserved" for the one list and SYNC for the other, and both run to `s.raise .ri`. -/
theorem reservedWordsRaiseRI : Obligations.ReservedWordsRaiseRI := by
  rintro s w (reserved | sync)
  · exact ⟨_, State.runWord_of_reserved (decode_of_reservedCell reserved), s.entersTrap_code .ri⟩
  · exact ⟨_, State.runWord_of_instr (decode_of_syncCell sync), s.entersTrap_code .ri⟩

/-- Settles O8: the charts answer "illegal", and where CP0 may be used that is refused. -/
theorem illegalCop0WordsRefused : Obligations.IllegalCop0WordsRefused := by
  intro s w allowed cell
  rw [State.runWord_of_illegalCop0 (decode_of_illegalCop0Cell cell), State.withCop0_of_allowed allowed]

/-- Settles O9: the usability test has passed, and each policy has its own answer. -/
theorem shouldBeZeroPolicy : Obligations.ShouldBeZeroPolicy := by
  intro s w i decodes passed
  rw [State.runWord_of_shouldBeZero decodes]
  obtain ⟨refuses, ignores, raises⟩ := State.runShouldBeZero_of_passed i passed
  exact ⟨refuses, ignores, fun policy => ⟨s.trapEntry .ri, raises policy, s.entersTrap_code .ri⟩⟩

/-! ### The fetch (R79, R80, R90) -/

section
variable {s : State}

/-- The fetch check passes exactly where a word access at `pc` is allowed (R79). -/
theorem State.fetchFaults_eq_false_iff :
    s.fetchFaults = false ↔ s.pc.toNat % 4 = 0 ∧ (s.status.kuC = true → 2 ^ 31 ≤ s.pc.toNat) := by
  rw [State.fetchFaults_eq_dataFaults, State.dataFaults_eq_false_iff (by simp)]
  rfl

theorem State.runInstruction_of_fetch {w : Word} (passes : s.fetchFaults = false) (fetched : s.fetch = some w) :
    s.runInstruction = s.runWord w := by
  simp [State.runInstruction, passes, fetched]

theorem State.runInstruction_of_stale (passes : s.fetchFaults = false) (stale : s.fetch = none) :
    s.runInstruction = .refused .staleFetch := by
  simp [State.runInstruction, passes, stale]

/-- A marked word is fetched as the policy ICACHE says (R90). -/
theorem State.fetch_of_marked {old : Word} (marked : Marks.lookup s.marks (s.wordNo s.pc) = some old) :
    (s.params.icache = .refuseStale → s.fetch = none) ∧
      (s.params.icache = .eitherWord →
        s.fetch = some (if Config.fetchOldWord s.draws then old else s.readWord s.pc)) := by
  constructor
  all_goals
    intro policy
    simp only [State.fetch, marked, policy]

/-- No word is fetched only from a marked word, under refuse-stale. -/
theorem State.stale_of_fetch_eq_none (stale : s.fetch = none) :
    s.params.icache = .refuseStale ∧ (Marks.lookup s.marks (s.wordNo s.pc)).isSome = true := by
  cases marked : Marks.lookup s.marks (s.wordNo s.pc) with
  | none => simp [State.fetch_of_unmarked marked] at stale
  | some old =>
    cases policy : s.params.icache with
    | refuseStale => exact ⟨rfl, rfl⟩
    | eitherWord => simp [(State.fetch_of_marked marked).2 policy] at stale

end

/-- Settles O15: the fetch check fails exactly at a misaligned `pc` or in kseg in user mode, and where it fails AdEF is
raised. -/
theorem fetchAddressError : Obligations.FetchAddressError := by
  refine fun s => ⟨fun bad => ?raises, fun aligned kuseg => State.fetchFaults_eq_false_iff.mpr ⟨aligned, kuseg⟩⟩
  have faults : s.fetchFaults = true := by
    rw [← Bool.not_eq_false, State.fetchFaults_eq_false_iff]
    rintro ⟨aligned, kuseg⟩
    obtain misaligned | ⟨user, kseg⟩ := bad
    · exact misaligned aligned
    · exact absurd (kuseg user) (by omega)
  exact ⟨_, State.runInstruction_of_fetchFaults faults, s.entersTrap_code .adEF⟩

/-- Settles O16: by the two policies of `State.fetch_of_marked`. -/
theorem staleFetch : Obligations.StaleFetch := by
  intro s old passes marked
  obtain ⟨refuses, fetches⟩ := State.fetch_of_marked marked
  refine ⟨fun policy => State.runInstruction_of_stale passes (refuses policy), fun policy => ?_⟩
  rw [State.runInstruction_of_fetch passes (fetches policy)]
  split
  · exact .inl rfl
  · exact .inr rfl

/-! ### The step (R29) -/

section
variable {s : State}

theorem step_of_reset {r : ResetState} (reset : s.input.reset = some r) :
    step s = .next ((s.tick s.input).externalReset r) := by
  simp only [step, State.cycle, State.cycleWith, reset]

theorem State.cycleWith_of_no_reset {i : StepInput} (noReset : i.reset = none) :
    s.cycleWith i = (s.tick i).interruptOrRun := by
  simp only [State.cycleWith, noReset]

theorem State.interruptOrRun_of_due {e : Exc} (due : s.dueInterrupt = some e) : s.interruptOrRun = s.raise e := by
  simp only [State.interruptOrRun, due]

theorem State.interruptOrRun_of_none_due (quiet : s.dueInterrupt = none) : s.interruptOrRun = s.runInstruction := by
  simp only [State.interruptOrRun, quiet]

/-- A step without a reset and without an interrupt to be taken runs the instruction. -/
theorem step_of_quiet (noReset : s.input.reset = none) (quiet : (s.tick s.input).dueInterrupt = none) :
    step s = (s.tick s.input).runInstruction :=
  (State.cycleWith_of_no_reset noReset).trans (State.interruptOrRun_of_none_due quiet)

end

/-- Settles O10: the fetch passes and sees the four bytes in memory, whose word is run. -/
theorem stepRunsTheDecodedInstruction : Obligations.StepRunsTheDecodedInstruction := by
  intro s i noReset u quiet aligned kuseg unmarked decodes
  have passes : u.fetchFaults = false := State.fetchFaults_eq_false_iff.mpr ⟨aligned, kuseg⟩
  have word : decode (u.readWord u.pc) = .instr i := Option.some.inj decodes
  rw [step_of_quiet noReset quiet, State.runInstruction_of_fetch passes (State.fetch_of_unmarked unmarked),
    State.runWord_of_instr word]

/-! ### Where a step is refused -/

/-- What running a word answers: a next state, or one of three refusals, each on what the spec gives no meaning. -/
inductive WordOutcome (s : State) (w : Word) : Prop where
  | next (runs : ∃ t, s.runWord w = .next t)
  | branchInDelaySlot (refused : s.runWord w = .refused .branchInDelaySlot) (slot : s.ds = true) (i : Instr)
      (transfers : IsTransfer i)
      (decodes : decode w = .instr i ∨ (decode w = .shouldBeZero i ∧ s.params.sbz = .ignore))
  | illegalCop0 (refused : s.runWord w = .refused .illegalCop0) (allowed : Cop0Allowed s) (cell : IllegalCop0Cell w)
  | shouldBeZero (refused : s.runWord w = .refused .shouldBeZero) (policy : s.params.sbz = .refuse) (i : Instr)
      (decodes : decode w = .shouldBeZero i) (passed : w.toNat / 2 ^ 26 = 0b010000 → Cop0Allowed s)

theorem WordOutcome.of_exec {s : State} {w : Word} {i : Instr} (run : s.runWord w = exec i s)
    (decodes : decode w = .instr i ∨ (decode w = .shouldBeZero i ∧ s.params.sbz = .ignore)) : WordOutcome s w := by
  by_cases runs : s.ds = false ∨ ¬IsTransfer i
  · exact .next (run ▸ exists_exec_eq_next runs)
  · obtain ⟨slot, transfers⟩ : s.ds = true ∧ IsTransfer i := by simpa using runs
    exact .branchInDelaySlot (run.trans (exec_transfer_of_delaySlot transfers slot)) slot i transfers decodes

theorem WordOutcome.of_shouldBeZero {s : State} {w : Word} {i : Instr} (decodes : decode w = .shouldBeZero i) :
    WordOutcome s w := by
  by_cases passed : w.toNat / 2 ^ 26 = 0b010000 → Cop0Allowed s
  case neg =>
    obtain ⟨major, denied⟩ : w.toNat / 2 ^ 26 = 0b010000 ∧ ¬Cop0Allowed s := by simpa using passed
    exact .next ⟨_, State.runWord_cop0_of_not_allowed (opField_of_toNat_div major) denied⟩
  case pos =>
    have run := State.runShouldBeZero_of_passed (s := s) i (imp_iff_not_or.mp passed)
    rw [← State.runWord_of_shouldBeZero decodes] at run
    obtain ⟨refuses, ignores, raises⟩ := run
    cases policy : s.params.sbz with
    | refuse => exact .shouldBeZero (refuses policy) policy i decodes passed
    | ignore => exact .of_exec (ignores policy) (.inr ⟨decodes, policy⟩)
    | ri => exact .next ⟨_, raises policy⟩

theorem wordOutcome (s : State) (w : Word) : WordOutcome s w := by
  cases decodes : decode w with
  | instr i => exact .of_exec (State.runWord_of_instr decodes) (.inl decodes)
  | shouldBeZero i => exact .of_shouldBeZero decodes
  | reserved => exact .next ⟨_, State.runWord_of_reserved decodes⟩
  | illegalCop0 =>
    have run := State.runWord_of_illegalCop0 (s := s) decodes
    obtain ⟨-, -, -, illegal⟩ := decodePartition w
    by_cases allowed : Cop0Allowed s
    · exact .illegalCop0 (run.trans (State.withCop0_of_allowed allowed _)) allowed (illegal.mp decodes)
    · exact .next ⟨_, run.trans (State.withCop0_of_not_allowed allowed _)⟩

/-- Settles O55: what comes before the fetch always answers a next state; at the fetch only a stale word is refused, and
past it a word's own outcome stands. -/
theorem stepStopsOnlyWhereTheSpecIsSilent : Obligations.StepStopsOnlyWhereTheSpecIsSilent := by
  intro s
  cases reset : s.input.reset with
  | some r => exact .inl ⟨_, step_of_reset reset⟩
  | none =>
    cases due : (s.tick s.input).dueInterrupt with
    | some e => exact .inl ⟨_, (State.cycleWith_of_no_reset reset).trans (State.interruptOrRun_of_due due)⟩
    | none =>
      have run := step_of_quiet reset due
      cases faults : (s.tick s.input).fetchFaults with
      | true => exact .inl ⟨_, run.trans (State.runInstruction_of_fetchFaults faults)⟩
      | false =>
        have reaches : StepReachesFetch s := ⟨reset, due, faults⟩
        cases fetched : (s.tick s.input).fetch with
        | none =>
          obtain ⟨policy, marked⟩ := State.stale_of_fetch_eq_none fetched
          exact .inr (.inr (.inr (.inr ⟨run.trans (State.runInstruction_of_stale faults fetched), reaches, policy, marked⟩)))
        | some w =>
          have fetches : StepFetches s w := ⟨reaches, fetched⟩
          rw [State.runInstruction_of_fetch faults fetched] at run
          cases wordOutcome (s.tick s.input) w with
          | next runs => exact .inl (run ▸ runs)
          | branchInDelaySlot refused slot i transfers decodes =>
            exact .inr (.inl ⟨run.trans refused, slot, w, i, fetches, transfers, decodes⟩)
          | illegalCop0 refused allowed cell =>
            exact .inr (.inr (.inl ⟨run.trans refused, allowed, w, fetches, cell⟩))
          | shouldBeZero refused policy i decodes passed =>
            exact .inr (.inr (.inr (.inl ⟨run.trans refused, policy, w, i, fetches, decodes, passed⟩)))

end Sys2Proof.Machine
end

section
/-! Proofs of the obligations of spec/60_exceptions.md sections 2, 3, 7 and 8: the time before an instruction, the host's
acts, and when an interrupt is taken. -/

namespace Sys2Proof.Machine

/-! ### Time (R36, R38) -/

/-- The distance test finds whether one of the next `n` values of `count` is `compare`. -/
theorem countReaches_iff (count compare : Word) (n : Nat) :
    countReaches count compare n = true ↔ ∃ k, 1 ≤ k ∧ k ≤ n ∧ count + BitVec.ofNat 32 k = compare := by
  have meets : ∀ k, count + BitVec.ofNat 32 k = compare ↔ k % 2 ^ 32 = (compare - count).toNat := fun k => by
    rw [← BitVec.toNat_inj, BitVec.toNat_add, BitVec.toNat_sub, BitVec.toNat_ofNat]
    have := count.isLt
    have := compare.isLt
    omega
  have zero : (compare - count).toNat = 0 ↔ count = compare := by
    rw [← BitVec.toNat_inj, BitVec.toNat_sub]
    have := count.isLt
    have := compare.isLt
    omega
  have small := (compare - count).isLt
  simp only [countReaches, decide_eq_true_eq, meets]
  split
  case isTrue same =>
    have turn := zero.mpr same
    exact ⟨fun reached => ⟨2 ^ 32, by omega, reached, by omega⟩, fun ⟨k, _, _, _⟩ => by omega⟩
  case isFalse apart =>
    have ahead := mt zero.mp apart
    exact ⟨fun reached => ⟨_, by omega, reached, Nat.mod_eq_of_lt small⟩, fun ⟨k, _, _, _⟩ => by omega⟩

/-- Settles O11: `State.tick` writes only `count`, the pending flags, `fromhost` and the model's own fields, and its
distance test is the meeting of `count` with `compare`. -/
theorem timePasses : Obligations.TimePasses := by
  intro s i u
  have timer : u.cause.ip7 = true ↔
      s.cause.ip7 = true ∨ ∃ k, 1 ≤ k ∧ k ≤ i.cycles ∧ s.count + BitVec.ofNat 32 k = s.compare := by
    rw [← countReaches_iff, ← Bool.or_eq_true]
    rfl
  exact ⟨Nat.le_add_left 1 _, s.tick_count i, timer, s.tick_reg i, ⟨rfl, rfl⟩, ⟨s.tick_readByte i, rfl⟩, rfl, rfl, rfl, rfl,
    rfl, rfl, rfl, rfl, rfl, rfl, rfl, rfl⟩

/-! ### The host's acts (R341, R342) -/

theorem fromhostAfter_eq (acts : List HostAct) (v : Byte) :
    fromhostAfter acts v = (acts.filterMap HostAct.fromhostWritten).getLast?.getD v := by
  induction acts generalizing v with
  | nil => rfl
  | cons act acts ih =>
    cases act with
    | writeFromhost x => simp [fromhostAfter, HostAct.fromhostWritten, List.getLast?_cons, ih]
    | writeIp6 _ | readTohost => simp [fromhostAfter, HostAct.fromhostWritten, ih]

theorem ip6After_eq (acts : List HostAct) (b : Bool) :
    ip6After acts b = (acts.filterMap HostAct.ip6Written).getLast?.getD b := by
  induction acts generalizing b with
  | nil => rfl
  | cons act acts ih =>
    cases act with
    | writeIp6 x => simp [ip6After, HostAct.ip6Written, List.getLast?_cons, ih]
    | writeFromhost _ | readTohost => simp [ip6After, HostAct.ip6Written, ih]

/-- Settles O12, by induction on the host's acts. -/
theorem hostActs : Obligations.HostActs :=
  fun _ i => ⟨fromhostAfter_eq i.acts _, ip6After_eq i.acts _⟩

/-! ### The sampled interrupt (R312, R317) -/

/-- The model samples the interrupt whose condition holds. -/
theorem State.pendingInterrupt_eq_some_iff {s : State} {e : Exc} :
    s.pendingInterrupt = some e ↔ InterruptPending s e := by
  have host : s.hintOk = true ↔ s.status.ieC = true ∧ s.cause.ip6 = true ∧ s.status.im6 = true := by
    simp [State.hintOk, and_comm]
  have timer : s.tintOk = true ↔ s.status.ieC = true ∧ s.cause.ip7 = true ∧ s.status.im7 = true := by
    simp [State.tintOk, and_comm]
  have sampled : s.pendingInterrupt = some e ↔
      (e = .hint ∧ s.hintOk = true) ∨ (e = .tint ∧ ¬s.hintOk = true ∧ s.tintOk = true) := by
    unfold State.pendingInterrupt
    cases s.hintOk <;> cases s.tintOk <;> simp [eq_comm]
  rw [sampled, host, timer, InterruptPending]
  by_cases enabled : s.status.ieC = true <;> simp [enabled]

/-- An interrupt whose condition holds waits at the boundary, with what is left of its deferral. -/
theorem State.tick_waiting_of_pending {s : State} {i : StepInput} {e : Exc} (pending : InterruptPending (s.tick i) e) :
    (s.tick i).waiting = some ⟨e, s.deferralLeft e i.deferral⟩ := by
  rw [State.tick_waiting, State.pendingInterrupt_eq_some_iff.mpr pending, Option.map_some]

theorem State.tick_waiting_of_none_pending {s : State} {i : StepInput}
    (none_pending : ∀ e, ¬InterruptPending (s.tick i) e) : (s.tick i).waiting = none := by
  have quiet : (s.tick i).pendingInterrupt = none :=
    Option.eq_none_iff_forall_ne_some.mpr fun e => mt State.pendingInterrupt_eq_some_iff.mp (none_pending e)
  rw [State.tick_waiting, quiet, Option.map_none]

/-! ### The deferral (R312; D13) -/

/-- An interrupt that waited at the boundary before is deferred at one less. -/
theorem State.deferralLeft_of_waiting {s : State} {e : Exc} {j : Nat} (waited : s.waiting = some ⟨e, j⟩) (drawn : Nat) :
    s.deferralLeft e drawn = j - 1 := by
  simp [State.deferralLeft, waited]

/-- One that begins to wait is deferred as drawn, within the bound INT_LATENCY. -/
theorem State.deferralLeft_of_not_waiting {s : State} {e : Exc} (begins : ∀ j, s.waiting ≠ some ⟨e, j⟩) (drawn : Nat) :
    s.deferralLeft e drawn = boundedDeferral s.params.intLatency drawn := by
  unfold State.deferralLeft
  split
  case h_1 w waited =>
    refine if_neg fun same => begins w.left ?_
    rw [waited, ← same]
  case h_2 => rfl

/-- No deferral is longer than INT_LATENCY. -/
theorem State.deferralLeft_le {s : State} (inv : StateInv s) (e : Exc) (drawn : Nat) {n : Nat}
    (bound : s.params.intLatency = some n) : s.deferralLeft e drawn ≤ n := by
  by_cases waited : ∃ j, s.waiting = some ⟨e, j⟩
  · obtain ⟨j, waited⟩ := waited
    have := inv.deferralBounded n ⟨e, j⟩ bound waited
    rw [State.deferralLeft_of_waiting waited]
    simp only at this
    omega
  · rw [State.deferralLeft_of_not_waiting (not_exists.mp waited)]
    exact (boundedDeferral_spec ..).2.1 n bound

/-! ### Taken or not -/

theorem State.cycleWith_of_waiting_none {s : State} {i : StepInput} (noReset : i.reset = none)
    (quiet : (s.tick i).waiting = none) : s.cycleWith i = (s.tick i).runInstruction := by
  rw [State.cycleWith_of_no_reset noReset, State.interruptOrRun_of_none_due]
  simp only [State.dueInterrupt, quiet]

/-- Where an interrupt may yet be deferred, the instruction runs. -/
theorem State.cycleWith_of_deferred {s : State} {i : StepInput} {e : Exc} {k : Nat} (noReset : i.reset = none)
    (waits : (s.tick i).waiting = some ⟨e, k⟩) (deferred : 0 < k) :
    s.cycleWith i = (s.tick i).runInstruction := by
  obtain ⟨k, rfl⟩ := Nat.exists_eq_succ_of_ne_zero deferred.ne'
  rw [State.cycleWith_of_no_reset noReset, State.interruptOrRun_of_none_due]
  simp only [State.dueInterrupt, waits]

/-- Where it may be deferred no more, it enters the handler instead. -/
theorem State.cycleWith_of_due {s : State} {i : StepInput} {e : Exc} (noReset : i.reset = none)
    (waits : (s.tick i).waiting = some ⟨e, 0⟩) : s.cycleWith i = .next ((s.tick i).trapEntry e) :=
  (State.cycleWith_of_no_reset noReset).trans
    (State.interruptOrRun_of_due (State.dueInterrupt_eq_some.mpr waits))

/-- The code recorded for an interrupt is its own (R311). -/
theorem entersTrap_of_interrupt {s u : State} {e : Exc} (pending : InterruptPending s e) :
    EntersTrap u (u.trapEntry e) (interruptCode e) none none := by
  obtain ⟨-, ⟨rfl, -⟩ | ⟨rfl, -⟩⟩ := pending
  · exact u.entersTrap_code .hint
  · exact u.entersTrap_code .tint

/-- Settles O14: the sampled interrupt waits with what `State.deferralLeft` leaves it, and only one that waits at 0 is
taken. -/
theorem interruptNotTaken : Obligations.InterruptNotTaken := by
  intro s i noReset u
  constructor
  · intro none_pending
    have quiet : u.waiting = none := State.tick_waiting_of_none_pending none_pending
    exact ⟨quiet, State.cycleWith_of_waiting_none noReset quiet⟩
  · intro e pending
    have waits : u.waiting = some ⟨e, s.deferralLeft e i.deferral⟩ := State.tick_waiting_of_pending pending
    refine ⟨_, waits, State.cycleWith_of_deferred noReset waits, fun j waited => State.deferralLeft_of_waiting waited _,
      fun begins => ?_⟩
    rw [State.deferralLeft_of_not_waiting begins]
    exact boundedDeferral_spec ..

/-! ### Every next state of a cycle leaves the outside as it found it -/

/-- No instruction touches the parameters, the script, the draws or the interrupt that waits. -/
theorem Effect.keepsOutside {s t : State} (effect : Effect s t) : KeepsOutside s t := by
  cases effect with
  | trap | register | hiLo | store | restoreStatus | clearMarks => exact ⟨rfl, rfl, rfl, rfl⟩
  | jump _ departs => cases departs <;> exact ⟨rfl, rfl, rfl, rfl⟩
  | jumpAndLink _ _ departs => cases departs <;> exact ⟨rfl, rfl, rfl, rfl⟩
  | writeCp0 n v =>
    unfold State.writeCp0
    split <;> exact ⟨rfl, rfl, rfl, rfl⟩

/-! ### Bounded liveness -/

theorem run_succ_of_step (n : Nat) {s u : State} (runs : step s = .next u) : core.run (n + 1) s = core.run n u := by
  have coreRuns : core.step s = .next u := runs
  simp only [Host.Core.run, coreRuns]

theorem step_of_run_succ {n : Nat} {s t : State} (run : core.run (n + 1) s = .next t) :
    ∃ u, step s = .next u ∧ core.run n u = .next t := by
  cases runs : step s with
  | next u => exact ⟨u, rfl, run_succ_of_step n runs ▸ run⟩
  | fault r => nomatch r
  | refused r =>
    have coreRefuses : core.step s = .refused r := runs
    simp [Host.Core.run, coreRefuses] at run

/-- The first of the boundaries from `s` on at which a reset comes, the condition of `e` fails, or `e` is taken is at most
`n` boundaries away. -/
def TakenWithin (n : Nat) (s : State) (e : Exc) : Prop :=
  ∃ k v w, k ≤ n ∧ core.run k s = .next v ∧ step v = .next w ∧
    (v.input.reset.isSome = true ∨ ¬InterruptPending (v.tick v.input) e ∨
      EntersTrap (v.tick v.input) w (interruptCode e) none none)

theorem TakenWithin.now {n : Nat} {s u : State} {e : Exc} (runs : step s = .next u)
    (done : s.input.reset.isSome = true ∨ ¬InterruptPending (s.tick s.input) e ∨
      EntersTrap (s.tick s.input) u (interruptCode e) none none) : TakenWithin n s e :=
  ⟨0, s, u, Nat.zero_le n, rfl, runs, done⟩

theorem TakenWithin.later {n : Nat} {s u : State} {e : Exc} (runs : step s = .next u) (taken : TakenWithin n u e) :
    TakenWithin (n + 1) s e := by
  obtain ⟨k, v, w, bound, run, rest⟩ := taken
  exact ⟨k + 1, v, w, by omega, (run_succ_of_step k runs).trans run, rest⟩

/-- By induction on what is left of the deferral: while the interrupt waits, each boundary takes one off it. -/
theorem takenWithin_deferralLeft (n : Nat) (e : Exc) (s : State) (left : s.deferralLeft e s.input.deferral = n) {t : State}
    (run : core.run (n + 1) s = .next t) : TakenWithin n s e := by
  induction n generalizing s with
  | zero =>
    obtain ⟨u, runs, -⟩ := step_of_run_succ run
    refine .now runs ?_
    by_cases reset : s.input.reset = none
    case neg => exact .inl (Option.isSome_iff_ne_none.mpr reset)
    by_cases pending : InterruptPending (s.tick s.input) e
    case neg => exact .inr (.inl pending)
    have waits := left ▸ State.tick_waiting_of_pending pending
    have taken := runs.symm.trans (State.cycleWith_of_due reset waits)
    rw [Host.Outcome.next.injEq] at taken
    exact .inr (.inr (taken ▸ entersTrap_of_interrupt pending))
  | succ n ih =>
    obtain ⟨u, runs, rest⟩ := step_of_run_succ run
    by_cases reset : s.input.reset = none
    case neg => exact .now runs (.inl (Option.isSome_iff_ne_none.mpr reset))
    by_cases pending : InterruptPending (s.tick s.input) e
    case neg => exact .now runs (.inr (.inl pending))
    have waits : (s.tick s.input).waiting = some ⟨e, n + 1⟩ := left ▸ State.tick_waiting_of_pending pending
    obtain ⟨r, resets, -⟩ | ⟨-, effect⟩ := step_cases runs
    · rw [reset] at resets
      cases resets
    obtain ⟨-, -, -, stillWaits⟩ := effect.keepsOutside
    refine .later runs (ih u ?_ rest)
    exact State.deferralLeft_of_waiting (stillWaits.trans waits) _

/-- Settles O13: a pending interrupt waits and is taken at 0; and from any state the count of its deferral is a number of
boundaries after which it is. -/
theorem interruptTaken : Obligations.InterruptTaken := by
  constructor
  · intro s i e noReset u pending
    have waits : u.waiting = some ⟨e, s.deferralLeft e i.deferral⟩ := State.tick_waiting_of_pending pending
    exact ⟨_, waits, fun due => ⟨_, State.cycleWith_of_due noReset (due ▸ waits), entersTrap_of_interrupt pending⟩⟩
  · intro s e inv
    exact ⟨s.deferralLeft e s.input.deferral, fun b bound => State.deferralLeft_le inv e _ bound,
      fun t run => takenWithin_deferralLeft _ e s rfl run⟩

end Sys2Proof.Machine
end

section
/-! Proofs of the obligations of spec/45_system_coprocessor.md: what MFC0 reads and MTC0 writes, the instructions that only
trap, and the idiom that returns from a trap. -/

namespace Sys2Proof.Machine

/-! ### The images of `status` and `cause` (R39, R47) -/

theorem getElem_bitAt (b : Bool) {i k : Nat} (inside : i < 32) (hk : k < 32) :
    (bitAt b i)[k] = (b && decide (k = i)) := by
  cases b with
  | false => simp [bitAt]
  | true =>
    have one : (1#32 <<< i)[k] = decide (k = i) := by
      rw [← BitVec.twoPow_eq, ← BitVec.getLsbD_eq_getElem, BitVec.getLsbD_twoPow]
      simp [inside, eq_comm]
    simpa [bitAt] using one

/-- The storage bits of `status` stand at their places, and the other bits are the free ones under the mask. -/
theorem Status.getElem_image (st : Status) (free : Word) {k : Nat} (hk : k < 32) :
    (st.image free)[k] =
      ((st.cu0 && decide (k = 28)) || (st.im7 && decide (k = 15)) || (st.im6 && decide (k = 14)) ||
        (st.kuO && decide (k = 5)) || (st.ieO && decide (k = 4)) || (st.kuP && decide (k = 3)) ||
        (st.ieP && decide (k = 2)) || (st.kuC && decide (k = 1)) || (st.ieC && decide (k = 0)) ||
        (free[k] && (0x0fff3fc0#32)[k])) := by
  simp (disch := decide) only [Status.image, statusCauseLayout, statusUnusedMask, BitVec.getElem_or, BitVec.getElem_and,
    getElem_bitAt]

/-- The fields of `cause` stand at their places, and the other bits are the free ones under the mask. -/
theorem Cause.getElem_image (c : Cause) (free : Word) {k : Nat} (hk : k < 32) :
    (c.image free)[k] =
      ((c.bd && decide (k = 31)) || (!decide (k < 28) && c.ce.getLsbD (k - 28)) || (c.ip7 && decide (k = 15)) ||
        (c.ip6 && decide (k = 14)) || (!decide (k < 2) && c.excCode.getLsbD (k - 2)) ||
        (free[k] && (0x4fff3f83#32)[k])) := by
  simp (disch := decide) only [Cause.image, statusCauseLayout, causeUnusedMask, BitVec.getElem_or, BitVec.getElem_and,
    getElem_bitAt]
  simp only [BitVec.getElem_shiftLeft, BitVec.truncate_eq_setWidth, BitVec.getElem_setWidth]

/-! ### MFC0 (R271) -/

/-- Where CP0 may be used MFC0 computes what `ReadCP0` reads. -/
theorem computes_mfc0 {s : State} (allowed : Cop0Allowed s) (rt : RegNo) (rd : Cp0No) :
    Computes s (.mfc0 rt rd) rt (s.readCp0 rd) :=
  computes_of_exec_finish (State.withCop0_of_allowed allowed _)

/-- Settles O47: MFC0 computes `State.readCp0`, whose two images are known bit by bit. -/
theorem mfc0Results : Obligations.Mfc0Results := by
  refine fun s rt rd => ⟨fun denied => traps_of_exec_withCop0 rfl denied, fun allowed => ?_⟩
  have reads := computes_mfc0 allowed rt
  refine ⟨reads 8#5, reads 9#5, reads 11#5, reads 14#5, reads 20#5, reads 21#5, ⟨_, reads 12#5, ?status⟩,
    ⟨_, reads 13#5, ?cause⟩, _, reads rd⟩
  case status =>
    have image : s.readCp0 12#5 = s.status.image (Config.statusUnusedBits s.draws) := rfl
    rw [image]
    refine ⟨?_, ?_⟩
    · ext k hk
      obtain rfl | rfl | rfl : k = 0 ∨ k = 1 ∨ k = 2 := by omega
      all_goals simp [Status.getElem_image]
    · simp [Status.getElem_image]
  case cause =>
    have image : s.readCp0 13#5 = s.cause.image (Config.causeUnusedBits s.draws) := rfl
    rw [image]
    refine ⟨?_, ?_, ?_, ?_, ?_⟩
    · simp [Cause.getElem_image]
    · ext k hk
      have : 28 + k < 32 := by omega
      obtain rfl | rfl : k = 0 ∨ k = 1 := by omega
      all_goals simp [Cause.getElem_image]
    · simp [Cause.getElem_image]
    · simp [Cause.getElem_image]
    · ext k hk
      obtain rfl | rfl | rfl | rfl | rfl : k = 0 ∨ k = 1 ∨ k = 2 ∨ k = 3 ∨ k = 4 := by omega
      all_goals simp [Cause.getElem_image]

/-! ### MTC0 (R272) -/

theorem exec_mtc0_of_allowed {s : State} (allowed : Cop0Allowed s) (rt : RegNo) (rd : Cp0No) :
    exec (.mtc0 rt rd) s = .next (s.writeCp0 rd (s.reg rt)).advance :=
  State.withCop0_of_allowed allowed _

section
variable (s : State) (n : Cp0No) (v : Word)

/-- The effect of MTC0 on the register, by its number: four can be written, the others keep the state. -/
theorem State.writeCp0_cases :
    (n = 9#5 ∧ s.writeCp0 n v = s.writeCount v) ∨ (n = 11#5 ∧ s.writeCp0 n v = s.writeCompare v) ∨
      (n = 12#5 ∧ s.writeCp0 n v = { s with status := Status.ofWord v }) ∨
      (n = 21#5 ∧ s.writeCp0 n v = { s with tohost := lowByte v }) ∨
      ((n ≠ 9#5 ∧ n ≠ 11#5 ∧ n ≠ 12#5 ∧ n ≠ 21#5) ∧ s.writeCp0 n v = s) := by
  unfold State.writeCp0
  split
  case h_5 notCount notCompare notStatus notTohost =>
    exact .inr (.inr (.inr (.inr ⟨⟨notCount, notCompare, notStatus, notTohost⟩, rfl⟩)))
  all_goals simp

theorem State.writeCp0_count : (s.writeCp0 n v).count = if n = 9#5 then v else s.count := by
  obtain ⟨rfl, wrote⟩ | ⟨rfl, wrote⟩ | ⟨rfl, wrote⟩ | ⟨rfl, wrote⟩ | ⟨⟨other, -⟩, wrote⟩ := s.writeCp0_cases n v
  all_goals simp [*]

theorem State.writeCp0_compare : (s.writeCp0 n v).compare = if n = 11#5 then v else s.compare := by
  obtain ⟨rfl, wrote⟩ | ⟨rfl, wrote⟩ | ⟨rfl, wrote⟩ | ⟨rfl, wrote⟩ | ⟨⟨-, other, -⟩, wrote⟩ := s.writeCp0_cases n v
  all_goals simp [*]

theorem State.writeCp0_status : (s.writeCp0 n v).status = if n = 12#5 then Status.ofWord v else s.status := by
  obtain ⟨rfl, wrote⟩ | ⟨rfl, wrote⟩ | ⟨rfl, wrote⟩ | ⟨rfl, wrote⟩ | ⟨⟨-, -, other, -⟩, wrote⟩ := s.writeCp0_cases n v
  all_goals simp [*]

theorem State.writeCp0_tohost : (s.writeCp0 n v).tohost = if n = 21#5 then v.extractLsb' 0 8 else s.tohost := by
  obtain ⟨rfl, wrote⟩ | ⟨rfl, wrote⟩ | ⟨rfl, wrote⟩ | ⟨rfl, wrote⟩ | ⟨⟨-, -, -, other⟩, wrote⟩ := s.writeCp0_cases n v
  all_goals simp [*, lowByte]

/-- The timer flag is cleared by a write of `compare` and else kept, but is open where the write makes `count` and
`compare` equal (R38). -/
theorem State.writeCp0_ip7 :
    (n = 11#5 → v ≠ s.count → (s.writeCp0 n v).cause.ip7 = false) ∧
      (n = 9#5 → v ≠ s.compare → (s.writeCp0 n v).cause.ip7 = s.cause.ip7) ∧
      (n ≠ 9#5 → n ≠ 11#5 → (s.writeCp0 n v).cause.ip7 = s.cause.ip7) := by
  obtain ⟨rfl, wrote⟩ | ⟨rfl, wrote⟩ | ⟨rfl, wrote⟩ | ⟨rfl, wrote⟩ | ⟨⟨notCount, notCompare, -⟩, wrote⟩ :=
    s.writeCp0_cases n v
  all_goals simp +contextual [*]

/-- The frame of MTC0: what no register number changes. -/
theorem State.writeCp0_advance_frame :
    let t := (s.writeCp0 n v).advance
    t.cause.bd = s.cause.bd ∧ t.cause.ce = s.cause.ce ∧ t.cause.ip6 = s.cause.ip6 ∧ t.cause.excCode = s.cause.excCode ∧
      t.badvaddr = s.badvaddr ∧ t.epc = s.epc ∧ t.fromhost = s.fromhost ∧ KeepsRegs s t ∧ KeepsHiLo s t ∧
      KeepsMemory s t ∧ KeepsOutside s t ∧ GoesOn s t := by
  obtain ⟨rfl, wrote⟩ | ⟨rfl, wrote⟩ | ⟨rfl, wrote⟩ | ⟨rfl, wrote⟩ | ⟨-, wrote⟩ := s.writeCp0_cases n v
  all_goals
    rw [wrote]
    exact ⟨rfl, rfl, rfl, rfl, rfl, rfl, rfl, fun _ => rfl, ⟨rfl, rfl⟩, ⟨fun _ => rfl, rfl⟩, ⟨rfl, rfl, rfl, rfl⟩,
      ⟨rfl, rfl, rfl⟩⟩

end

/-- Settles O48: field by field of `State.writeCp0`. -/
theorem mtc0Results : Obligations.Mtc0Results := by
  refine fun s rt rd => ⟨fun denied => traps_of_exec_withCop0 rfl denied, fun allowed => ?_⟩
  obtain ⟨cleared, kept, untouched⟩ := s.writeCp0_ip7 rd (s.reg rt)
  refine ⟨_, exec_mtc0_of_allowed allowed rt rd, s.writeCp0_count .., s.writeCp0_compare .., s.writeCp0_tohost ..,
    fun status => ?_, fun other => ?_, cleared, kept, untouched, s.writeCp0_advance_frame ..⟩
  · rw [State.advance_status, State.writeCp0_status, if_pos status]
    exact ⟨rfl, rfl, rfl, rfl, rfl, rfl, rfl, rfl, rfl⟩
  · rw [State.advance_status, State.writeCp0_status, if_neg other]

/-- The image of a written `status` is the word written, under the mask of the storage bits and of CU[3:1]. -/
theorem Status.image_ofWord_and (v free : Word) :
    (Status.ofWord v).image free &&& 0xf000c03f#32 = v &&& 0x1000c03f#32 := by
  ext k hk
  rw [BitVec.getElem_and, BitVec.getElem_and, Status.getElem_image]
  interval_cases k
  all_goals simp [Status.ofWord, statusCauseLayout]

/-- Settles O49: the value written leaves CP0 usable, and its image has its storage bits. -/
theorem statusReadsBack : Obligations.StatusReadsBack := by
  intro s rt rd allowed usable
  have stillAllowed : Cop0Allowed (s.writeCp0 12#5 (s.reg rt)).advance := usable
  exact ⟨_, _, exec_mtc0_of_allowed allowed rt 12#5, computes_mfc0 stillAllowed rd 12#5, Status.image_ofWord_and ..⟩

/-! ### The instructions that only trap (R275 to R282) -/

/-- Settles O24: the meaning of each is to raise its exception. -/
theorem syscallBreakSync : Obligations.SyscallBreakSync := fun s _ =>
  ⟨⟨_, rfl, s.entersTrap_code .sys⟩, ⟨_, rfl, s.entersTrap_code .bp⟩, ⟨_, rfl, s.entersTrap_code .ri⟩⟩

/-- Settles O25: the meaning of each is to raise CpU with its coprocessor's number. -/
theorem coprocessorUnusable : Obligations.CoprocessorUnusable := by
  intro s bits
  have raises : ∀ (z : BitVec 2) (i : Instr), exec i s = s.raise (.cpU z) → Traps s i 11#5 (some z) none :=
    fun z _ run => ⟨_, run, s.entersTrap_cpU z⟩
  exact ⟨raises 1#2 _ rfl, raises 1#2 _ rfl, raises 1#2 _ rfl, raises 1#2 _ rfl, raises 1#2 _ rfl, raises 2#2 _ rfl,
    raises 2#2 _ rfl, raises 2#2 _ rfl, raises 2#2 _ rfl, raises 2#2 _ rfl, raises 3#2 _ rfl, raises 3#2 _ rfl,
    raises 3#2 _ rfl, raises 3#2 _ rfl, raises 3#2 _ rfl⟩

/-! ### Returning from a trap (R323) -/

theorem exec_jr_of_outside {s : State} (outside : s.ds = false) (rs : RegNo) :
    exec (.jr rs) s = .next (s.branchTo (s.reg rs)) :=
  State.transfer_of_outside outside _

theorem exec_mfc0_of_allowed {s : State} (allowed : Cop0Allowed s) (rt : RegNo) (rd : Cp0No) :
    exec (.mfc0 rt rd) s = .next (s.setReg rt (s.readCp0 rd)).advance :=
  State.withCop0_of_allowed allowed _

/-- Settles O23: the handler runs in kernel mode, so MFC0 and RFE are allowed; MFC0 puts the restart address into rk, JR
goes there behind its delay slot, and RFE, in the slot, pops what trap entry pushed. -/
theorem returnIdiom : Obligations.ReturnIdiom := by
  intro s e rk notZero
  have kernel : Cop0Allowed (s.trapEntry e) := .inl rfl
  have loaded := exec_mfc0_of_allowed kernel rk 14#5
  have jumped := exec_jr_of_outside (s := ((s.trapEntry e).setReg rk s.restartAddress).advance) rfl rk
  have target : ((s.trapEntry e).setReg rk s.restartAddress).advance.reg rk = s.restartAddress := by
    rw [State.advance_reg, State.reg_setReg_self, if_neg notZero]
  rw [target] at jumped
  have returned := exec_rfe_of_allowed
    (s := ((s.trapEntry e).setReg rk s.restartAddress).advance.branchTo s.restartAddress) (.inl rfl)
  exact ⟨_, _, _, loaded, jumped, returned, rfl, rfl, rfl, rfl, rfl, rfl, rfl⟩

end Sys2Proof.Machine
end

section
/-! Proofs of the obligations about the machine as a whole: reset, the invariant, the alignment of `pc`, and what changes
the mode, the exception registers and the timer flag. Each is a case split over what a step can do. -/

namespace Sys2Proof.Machine

/-! ### Reset (R60, R360 to R365) -/

theorem State.reg_succ (s : State) {n : Nat} (inside : n < 31) : s.reg (BitVec.ofNat 5 (n + 1)) = s.regs[n] := by
  have number : (BitVec.ofNat 5 (n + 1)).toNat = n + 1 := by
    rw [BitVec.toNat_ofNat]
    omega
  have notZero : BitVec.ofNat 5 (n + 1) ≠ 0#5 := fun zero => by
    rw [zero] at number
    simp at number
  unfold State.reg
  rw [if_neg notZero]
  congr 1
  omega

/-- Settles O17: the fields of `State.ofReset` that no draw gives. -/
theorem resetStateOfTheSpec : Obligations.ResetStateOfTheSpec :=
  ⟨fun _ _ => ⟨rfl, rfl, rfl, rfl, rfl, rfl, rfl, rfl⟩, defaultParams, defaultResetState, rfl⟩

/-- Settles O18: a reset is asked for before anything sampled is looked at, and its state is all the draw's. -/
theorem externalReset : Obligations.ExternalReset := by
  intro s i r reset
  have answers : s.cycleWith i = .next ((s.tick i).externalReset r) := by simp only [State.cycleWith, reset]
  have kernel : ((s.tick i).externalReset r).status.kuC = false := rfl
  have aligned : resetVector.toNat % 4 = 0 := by decide
  have passes : ((s.tick i).externalReset r).fetchFaults = false := State.fetchFaults_of_kernel kernel aligned
  exact ⟨_, answers, rfl, rfl, rfl, rfl, rfl, rfl, rfl, rfl, rfl, passes, rfl, rfl, rfl, rfl, rfl, rfl, rfl, rfl, rfl, rfl,
    rfl, fun n inside => State.reg_succ _ inside, rfl, rfl, rfl, rfl, rfl, fun _ => rfl⟩

/-! ### The invariant -/

theorem stateInv_ofReset {p : Params} (range : 1 ≤ p.paBits ∧ p.paBits ≤ 32) (r : ResetState) :
    StateInv (State.ofReset p r) where
  memCanonical := State.wf_ofReset p r
  memWithin := Memory.within_ofImage _ _
  marksCanonical := rfl
  paBitsRange := range
  sequential _ := rfl
  deferralBounded _ _ _ := nofun

theorem stateInv_externalReset {s : State} (inv : StateInv s) (r : ResetState) : StateInv (s.externalReset r) := by
  obtain ⟨wf, within, marks, range, sequential, bounded⟩ := stateInv_ofReset inv.paBitsRange r
  exact ⟨wf, within, marks, range, sequential, bounded⟩

theorem stateInv_tick {s : State} (inv : StateInv s) (i : StepInput) : StateInv (s.tick i) where
  memCanonical := inv.memCanonical
  memWithin := inv.memWithin
  marksCanonical := inv.marksCanonical
  paBitsRange := inv.paBitsRange
  sequential := inv.sequential
  deferralBounded n w bound waits := by
    rw [State.tick_waiting, Option.map_eq_some_iff] at waits
    obtain ⟨e, -, rfl⟩ := waits
    exact State.deferralLeft_le inv e _ bound

/-- What an instruction does to `pc`, `npc` and the delay slot leaves them in sequence. -/
theorem Effect.sequential {s t : State} (effect : Effect s t) (outside : t.ds = false) : t.npc = t.pc + 4#32 := by
  have annulled : ∀ pc : Word, pc + 12#32 = pc + 8#32 + 4#32 := fun pc => by rw [BitVec.add_assoc]; rfl
  cases effect with
  | trap | register | hiLo | store | restoreStatus | clearMarks | writeCp0 => rfl
  | jump _ departs | jumpAndLink _ _ departs =>
    cases departs with
    | taken | notTaken => cases outside
    | annulled => exact annulled _

/-- An instruction that stores nothing keeps memory, and marks nothing. -/
theorem Effect.memory_cases {s t : State} (effect : Effect s t) :
    (t.mem = s.mem ∧ (t.marks = s.marks ∨ t.marks = [])) ∨
      ∃ a bytes, t.mem = (s.storeBytes a bytes).mem ∧ t.marks = (s.storeBytes a bytes).marks := by
  cases effect with
  | trap | register | hiLo | restoreStatus => exact .inl ⟨rfl, .inl rfl⟩
  | clearMarks => exact .inl ⟨rfl, .inr rfl⟩
  | store n a bytes => exact .inr ⟨a, bytes, rfl, rfl⟩
  | jump _ departs | jumpAndLink _ _ departs => cases departs <;> exact .inl ⟨rfl, .inl rfl⟩
  | writeCp0 n v =>
    refine .inl ?_
    obtain ⟨rfl, wrote⟩ | ⟨rfl, wrote⟩ | ⟨rfl, wrote⟩ | ⟨rfl, wrote⟩ | ⟨-, wrote⟩ := s.writeCp0_cases n v
    all_goals
      rw [wrote]
      exact ⟨rfl, .inl rfl⟩

theorem Effect.keepsInv {s t : State} (effect : Effect s t) (inv : StateInv s) : StateInv t := by
  obtain ⟨params, -, -, waiting⟩ := effect.keepsOutside
  have memory : Memory.wf t.mem = true ∧ Memory.within s.params.paBits t.mem = true ∧ Marks.wf t.marks = true := by
    obtain ⟨mem, marks | marks⟩ | ⟨a, bytes, mem, marks⟩ := effect.memory_cases
    · exact mem ▸ marks ▸ ⟨inv.memCanonical, inv.memWithin, inv.marksCanonical⟩
    · exact mem ▸ marks ▸ ⟨inv.memCanonical, inv.memWithin, rfl⟩
    · exact mem ▸ marks ▸ ⟨s.wf_storeBytes a bytes inv.memCanonical, s.within_storeBytes a bytes inv.memWithin,
        s.marks_wf_storeBytes a bytes inv.marksCanonical⟩
  obtain ⟨canonical, within, marks⟩ := memory
  exact {
    memCanonical := canonical
    memWithin := params ▸ within
    marksCanonical := marks
    paBitsRange := params ▸ inv.paBitsRange
    sequential := effect.sequential
    deferralBounded := fun n w bound waits => inv.deferralBounded n w (params ▸ bound) (waiting ▸ waits) }

/-- Settles O50: reset meets the invariant with any parameters in range. -/
theorem invAtReset : Obligations.InvAtReset := stateInv_ofReset (by decide) _

/-- Settles O51: time keeps the invariant, and so do the external reset and every effect of an instruction. -/
theorem stepKeepsInv : Obligations.StepKeepsInv := by
  intro s t inv runs
  have ticked := stateInv_tick inv s.input
  obtain ⟨r, -, rfl⟩ | ⟨-, effect⟩ := step_cases runs
  · exact stateInv_externalReset ticked r
  · exact effect.keepsInv ticked

/-- Settles O52: `State.tick` uses the script's head and one draw, and nothing after it touches either. -/
theorem stepKeepsParameters : Obligations.StepKeepsParameters := by
  intro s t runs
  obtain ⟨r, -, rfl⟩ | ⟨-, effect⟩ := step_cases runs
  · exact ⟨rfl, rfl, rfl⟩
  · obtain ⟨params, inputs, draws, -⟩ := effect.keepsOutside
    exact ⟨params, inputs, draws⟩

/-! ### Every next state of an instruction, by the instruction -/

section
variable {s t : State} {i : Instr}

/-- What instruction `i` can do at `s`. Beside `Effect` it says which instructions write CP0 and clear the marks, and where
each jump and branch goes. -/
inductive InstrEffect (s : State) (i : Instr) : State → Prop where
  | trap (e : Exc) : InstrEffect s i (s.trapEntry e)
  | register (r : RegNo) (v : Word) : InstrEffect s i (s.setReg r v).advance
  | hiLo (hi lo : Word) : InstrEffect s i ((s.setHi hi).setLo lo).advance
  | store (a : Word) (bytes : List Byte) : InstrEffect s i (s.storeBytes a bytes).advance
  | mtc0 (rt : RegNo) (rd : Cp0No) (names : i = .mtc0 rt rd) : InstrEffect s i (s.writeCp0 rd (s.reg rt)).advance
  | rfe (names : i = .rfe) : InstrEffect s i s.restoreStatus.advance
  | icinv (names : i = .icinv) : InstrEffect s i s.clearMarks.advance
  | jump (link : Option RegNo) (target : BitVec 26) :
      InstrEffect s i ((s.linked link).branchTo (jumpTarget s.pc target))
  | jumpRegister (link : Option RegNo) (rs : RegNo) (names : i = .jr rs ∨ ∃ rd, i = .jalr rd rs) :
      InstrEffect s i ((s.linked link).branchTo (s.reg rs))
  | branch (link : Option RegNo) (imm : BitVec 16) : InstrEffect s i ((s.linked link).branchTo (branchTarget s.pc imm))
  | fallThrough (link : Option RegNo) : InstrEffect s i (s.linked link).fallThrough
  | annul (link : Option RegNo) : InstrEffect s i (s.linked link).annul

/-- By the shape of the instruction's meaning. -/
theorem exec_instrEffect (run : exec i s = .next t) : InstrEffect s i t := by
  cases meaning i with
  | load exec_eq =>
    obtain ⟨-, rfl⟩ | ⟨-, rfl⟩ := State.load_cases ((exec_eq s).symm.trans run)
    · exact .trap _
    · exact .register _ _
  | store exec_eq =>
    obtain ⟨-, rfl⟩ | ⟨-, rfl⟩ := State.store_cases ((exec_eq s).symm.trans run)
    · exact .trap _
    · exact .store _ _
  | finish exec_eq =>
    obtain rfl := Host.Outcome.next.inj ((exec_eq s).symm.trans run)
    exact .register _ _
  | finishUnless exec_eq =>
    obtain ⟨-, rfl⟩ | ⟨-, rfl⟩ := State.finishUnless_cases ((exec_eq s).symm.trans run)
    · exact .trap _
    · exact .register _ _
  | hiLo exec_eq =>
    obtain rfl := Host.Outcome.next.inj ((exec_eq s).symm.trans run)
    exact .hiLo _ _
  | raise exec_eq =>
    obtain rfl := Host.Outcome.next.inj ((exec_eq s).symm.trans run)
    exact .trap _
  | mfc0 rt rd =>
    obtain ⟨-, next⟩ | ⟨-, rfl⟩ := State.withCop0_cases run
    · obtain rfl := Host.Outcome.next.inj next
      exact .register _ _
    · exact .trap _
  | mtc0 rt rd =>
    obtain ⟨-, next⟩ | ⟨-, rfl⟩ := State.withCop0_cases run
    · obtain rfl := Host.Outcome.next.inj next
      exact .mtc0 rt rd rfl
    · exact .trap _
  | rfe =>
    obtain ⟨-, next⟩ | ⟨-, rfl⟩ := State.withCop0_cases run
    · obtain rfl := Host.Outcome.next.inj next
      exact .rfe rfl
    · exact .trap _
  | icinv =>
    obtain ⟨-, next⟩ | ⟨-, rfl⟩ := State.withCop0_cases run
    · obtain rfl := Host.Outcome.next.inj next
      exact .icinv rfl
    · exact .trap _
  | jump _ link target exec_eq =>
    obtain ⟨-, rfl⟩ := State.transfer_cases ((exec_eq s).symm.trans run)
    exact .jump link target
  | jumpRegister _ link rs names exec_eq =>
    obtain ⟨-, rfl⟩ := State.transfer_cases ((exec_eq s).symm.trans run)
    exact .jumpRegister link rs names
  | @branch _ _ link taken imm exec_eq =>
    obtain ⟨-, rfl⟩ := State.transfer_cases ((exec_eq s).symm.trans run)
    cases taken s with
    | true => cases link <;> exact .branch _ imm
    | false => exact .fallThrough link
  | @branchLikely _ _ link taken imm exec_eq =>
    obtain ⟨-, rfl⟩ := State.transfer_cases ((exec_eq s).symm.trans run)
    cases taken s with
    | true => cases link <;> exact .branch _ imm
    | false => exact .annul link

end

/-! ### Alignment (R79, R106, R107) -/

/-- The address is on a four-byte boundary. -/
def OnWord (a : Word) : Prop := a.toNat % 4 = 0

theorem OnWord.add {a b : Word} (ha : OnWord a) (hb : OnWord b) : OnWord (a + b) := by
  unfold OnWord at *
  rw [BitVec.toNat_add]
  omega

theorem onWord_four : OnWord 4#32 := rfl

theorem onWord_resetVector : OnWord resetVector := rfl

theorem onWord_trapVector : OnWord trapVector := rfl

theorem onWord_jumpTarget (pc : Word) (target : BitVec 26) : OnWord (jumpTarget pc target) := by
  unfold OnWord jumpTarget
  rw [BitVec.toNat_append, ← Nat.shiftLeft_add_eq_or_of_lt (BitVec.isLt _), Nat.shiftLeft_eq]
  simp

theorem onWord_branchTarget {pc : Word} (aligned : OnWord pc) (imm : BitVec 16) : OnWord (branchTarget pc imm) := by
  have offset : OnWord (signExt imm <<< 2) := by
    unfold OnWord
    rw [BitVec.toNat_shiftLeft, Nat.shiftLeft_eq]
    omega
  exact (aligned.add onWord_four).add offset

section
variable {s t : State} {i : Instr}

/-- Only a jump to a register, with a value off a four-byte boundary, leaves `npc` off one. -/
theorem InstrEffect.onWord (effect : InstrEffect s i t) (pc : OnWord s.pc) (npc : OnWord s.npc) :
    OnWord t.pc ∧ (OnWord t.npc ∨ ∃ rs, ¬OnWord (s.reg rs) ∧ (i = .jr rs ∨ ∃ rd, i = .jalr rd rs)) := by
  have inOrder : ∀ u : State, u.npc = s.npc → OnWord u.npc ∧ OnWord (u.npc + 4#32) :=
    fun u same => same ▸ ⟨npc, npc.add onWord_four⟩
  have slot : ∀ link, OnWord (s.linked link).npc := fun link => by cases link <;> exact npc
  cases effect with
  | trap e => exact ⟨onWord_trapVector, .inl (onWord_trapVector.add onWord_four)⟩
  | register | hiLo | store | rfe | icinv => exact ⟨npc, .inl (npc.add onWord_four)⟩
  | mtc0 rt rd =>
    obtain ⟨-, -, -, -, -, -, -, -, -, -, -, hpc, hnpc, -⟩ := s.writeCp0_advance_frame rd (s.reg rt)
    rw [hpc, hnpc]
    exact ⟨npc, .inl (npc.add onWord_four)⟩
  | jump link target => exact ⟨slot link, .inl (onWord_jumpTarget ..)⟩
  | branch link imm => exact ⟨slot link, .inl (onWord_branchTarget pc imm)⟩
  | fallThrough link => exact ⟨slot link, .inl ((slot link).add onWord_four)⟩
  | annul link => cases link <;> exact ⟨pc.add rfl, .inl (pc.add rfl)⟩
  | jumpRegister link rs names =>
    by_cases aligned : OnWord (s.reg rs)
    · exact ⟨slot link, .inl aligned⟩
    · exact ⟨slot link, .inr ⟨rs, aligned, names⟩⟩

end

/-- Settles O53: reset and the handler start aligned, and every instruction but a jump to a register keeps the
alignment. -/
theorem pcStaysAligned : Obligations.PcStaysAligned := by
  intro s t pc npc runs
  obtain ⟨r, -, rfl⟩ | ⟨-, e, rfl⟩ | ⟨i, stepRuns, run⟩ := step_runs runs
  · exact ⟨onWord_resetVector, .inl (onWord_resetVector.add onWord_four)⟩
  · exact ⟨onWord_trapVector, .inl (onWord_trapVector.add onWord_four)⟩
  · obtain ⟨aligned, next | ⟨rs, misaligned, rfl | ⟨rd, rfl⟩⟩⟩ := (exec_instrEffect run).onWord pc npc
    · exact ⟨aligned, .inl next⟩
    · exact ⟨aligned, .inr ⟨rs, misaligned, .inl stepRuns⟩⟩
    · exact ⟨aligned, .inr ⟨rs, misaligned, .inr ⟨rd, stepRuns⟩⟩⟩

/-! ### What changes the CP0 registers -/

/-- An instruction that neither enters the trap nor is MTC0 or RFE keeps every CP0 register. -/
theorem InstrEffect.cp0_cases {s t : State} {i : Instr} (effect : InstrEffect s i t) :
    (∃ e, t = s.trapEntry e) ∨ (∃ rt rd, i = .mtc0 rt rd ∧ t = (s.writeCp0 rd (s.reg rt)).advance) ∨
      (i = .rfe ∧ t = s.restoreStatus.advance) ∨ KeepsCp0 s t := by
  cases effect with
  | trap e => exact .inl ⟨e, rfl⟩
  | mtc0 rt rd names => exact .inr (.inl ⟨rt, rd, names, rfl⟩)
  | rfe names => exact .inr (.inr (.inl ⟨names, rfl⟩))
  | register | hiLo | store | icinv => exact .inr (.inr (.inr ⟨⟨rfl, rfl, rfl, rfl, rfl, rfl⟩, rfl, rfl⟩))
  | jump link | jumpRegister link | branch link | fallThrough link | annul link =>
    cases link <;> exact .inr (.inr (.inr ⟨⟨rfl, rfl, rfl, rfl, rfl, rfl⟩, rfl, rfl⟩))

/-- What a step can do to the CP0 registers once time has passed: the external reset, trap entry, MTC0 or RFE. -/
theorem step_cp0_cases {s t : State} (runs : step s = .next t) :
    (∃ r, s.input.reset = some r ∧ t = (s.tick s.input).externalReset r) ∨
      (s.input.reset = none ∧ ∃ e, t = (s.tick s.input).trapEntry e) ∨
      (∃ rt rd, StepRuns s (.mtc0 rt rd) ∧ t = ((s.tick s.input).writeCp0 rd (s.reg rt)).advance) ∨
      (StepRuns s .rfe ∧ t = (s.tick s.input).restoreStatus.advance) ∨ KeepsCp0 (s.tick s.input) t := by
  obtain reset | trap | ⟨i, stepRuns, run⟩ := step_runs runs
  · exact .inl reset
  · exact .inr (.inl trap)
  · obtain trap | ⟨rt, rd, rfl, wrote⟩ | ⟨rfl, popped⟩ | keeps := (exec_instrEffect run).cp0_cases
    · exact .inr (.inl ⟨stepRuns.1, trap⟩)
    · exact .inr (.inr (.inl ⟨rt, rd, stepRuns, wrote⟩))
    · exact .inr (.inr (.inr (.inl ⟨stepRuns, popped⟩)))
    · exact .inr (.inr (.inr (.inr keeps)))

/-- Settles O56: of what can touch `status`, reset and trap entry leave kernel mode, RFE pops the previous mode, and MTC0
writes the mode only where it writes `status`. -/
theorem modeChanges : Obligations.ModeChanges := by
  intro s t runs
  obtain ⟨r, reset, rfl⟩ | ⟨noReset, e, rfl⟩ | ⟨rt, rd, stepRuns, rfl⟩ | ⟨stepRuns, rfl⟩ | ⟨-, status, -⟩ :=
    step_cp0_cases runs
  · exact .inl ⟨Option.isSome_of_eq_some reset, rfl⟩
  · exact .inr (.inl ⟨noReset, rfl, rfl, e.code, State.entersTrap_code _ e⟩)
  · rw [State.advance_status, State.writeCp0_status]
    split
    case isTrue isStatus =>
      subst isStatus
      exact .inr (.inr (.inr (.inl ⟨rt, stepRuns, rfl⟩)))
    case isFalse => exact .inr (.inr (.inr (.inr rfl)))
  · exact .inr (.inr (.inl ⟨stepRuns, rfl⟩))
  · exact .inr (.inr (.inr (.inr (congrArg Status.kuC status))))

theorem isExcCode_code (e : Exc) : IsExcCode e.code := by
  cases e <;> simp [IsExcCode, Exc.code]

/-- Settles O57: MTC0, RFE and every other instruction leave the exception registers alone. -/
theorem exceptionRegistersChange : Obligations.ExceptionRegistersChange := by
  intro s t runs
  obtain ⟨r, reset, rfl⟩ | ⟨-, e, rfl⟩ | ⟨rt, rd, -, rfl⟩ | ⟨-, rfl⟩ | ⟨⟨badvaddr, -, -, epc, -⟩, -, cause⟩ :=
    step_cp0_cases runs
  · exact .inl (Option.isSome_of_eq_some reset)
  · exact .inr (.inl ⟨e.code, isExcCode_code e, State.entersTrap_code _ e⟩)
  · obtain ⟨bd, ce, -, excCode, badvaddr, epc, -⟩ := (s.tick s.input).writeCp0_advance_frame rd (s.reg rt)
    exact .inr (.inr ⟨epc, badvaddr, bd, ce, excCode⟩)
  · exact .inr (.inr ⟨rfl, rfl, rfl, rfl, rfl⟩)
  · refine .inr (.inr ⟨epc, badvaddr, ?_⟩)
    rw [cause]
    exact ⟨rfl, rfl, rfl⟩

/-- Settles O58: time sets the flag and never clears it; of what comes after, only MTC0 to `compare` and to `count` can
touch `compare` or the flag. -/
theorem timerFlagCleared : Obligations.TimerFlagCleared := by
  intro s t runs noReset
  have pending : s.cause.ip7 = true → (s.tick s.input).cause.ip7 = true := fun set => by simp [set]
  obtain ⟨r, reset, -⟩ | ⟨-, e, rfl⟩ | ⟨rt, rd, stepRuns, rfl⟩ | ⟨-, rfl⟩ | ⟨⟨-, -, compare, -⟩, -, cause⟩ :=
    step_cp0_cases runs
  · rw [noReset] at reset
    cases reset
  · exact ⟨.inl rfl, fun set => .inl (pending set)⟩
  · by_cases toCompare : rd = 11#5
    · subst toCompare
      exact ⟨.inr ⟨rt, stepRuns, rfl⟩, fun _ => .inr (.inl ⟨rt, stepRuns⟩)⟩
    obtain ⟨-, toCount, elsewhere⟩ := (s.tick s.input).writeCp0_ip7 rd (s.reg rt)
    refine ⟨.inl ((State.writeCp0_compare ..).trans (if_neg toCompare)), fun set => ?_⟩
    by_cases isCount : rd = 9#5
    · by_cases meets : s.reg rt = s.compare
      · exact .inr (.inr ⟨rt, isCount ▸ stepRuns, meets⟩)
      · exact .inl ((toCount isCount meets).trans (pending set))
    · exact .inl ((elsewhere isCount toCompare).trans (pending set))
  · exact ⟨.inl rfl, fun set => .inl (pending set)⟩
  · exact ⟨.inl compare, fun set => .inl ((congrArg Cause.ip7 cause).trans (pending set))⟩

end Sys2Proof.Machine
end

section
/-! Proofs of the obligations about user mode without `CU[0]`: what it cannot change and what it cannot see. -/

namespace Sys2Proof.Machine

/-- A byte that two memories agree on is one they agree on after the same bytes are written to both. -/
theorem Memory.read_writeBytes_congr (paBits : Nat) (bytes : List Byte) {m m' : Memory} (a : Word) (b : Nat)
    (wf : Memory.wf m = true) (wf' : Memory.wf m' = true) (same : Memory.read m' b = Memory.read m b) :
    Memory.read (Memory.writeBytes paBits m' a bytes) b = Memory.read (Memory.writeBytes paBits m a bytes) b := by
  induction bytes generalizing m m' a with
  | nil => exact same
  | cons x bytes ih =>
    refine ih _ (Memory.wf_write _ x wf) (Memory.wf_write _ x wf') ?_
    rw [Memory.read_write _ _ _ wf, Memory.read_write _ _ _ wf', same]

end Sys2Proof.Machine

namespace Sys2Proof

open Sys2Proof.Machine

/-! ### Two states that user mode cannot tell apart, under the operations of Machine/Ops.lean -/

namespace UserView
variable {s s' : State}

theorem trapEntry (view : UserView s s') (e : Exc) : UserView (s.trapEntry e) (s'.trapEntry e) :=
  ⟨view.regs, view.hiLo, ⟨rfl, rfl, rfl⟩, view.kuseg, view.params, view.draws⟩

theorem setReg (view : UserView s s') (r : RegNo) (v : Word) : UserView (s.setReg r v) (s'.setReg r v) where
  regs q := by rw [State.reg_setReg, State.reg_setReg, view.reg]
  hiLo := view.hiLo
  flow := view.flow
  kuseg := view.kuseg
  params := view.params
  draws := view.draws

theorem setHiLo (view : UserView s s') (hi lo : Word) : UserView ((s.setHi hi).setLo lo) ((s'.setHi hi).setLo lo) :=
  ⟨view.regs, ⟨rfl, rfl⟩, view.flow, view.kuseg, view.params, view.draws⟩

theorem advance (view : UserView s s') : UserView s.advance s'.advance :=
  have ⟨_, npc, _⟩ := view.flow
  ⟨view.regs, view.hiLo, ⟨npc, congrArg (· + 4#32) npc, rfl⟩, view.kuseg, view.params, view.draws⟩

theorem branchTo (view : UserView s s') (target : Word) : UserView (s.branchTo target) (s'.branchTo target) :=
  have ⟨_, npc, _⟩ := view.flow
  ⟨view.regs, view.hiLo, ⟨npc, rfl, rfl⟩, view.kuseg, view.params, view.draws⟩

theorem fallThrough (view : UserView s s') : UserView s.fallThrough s'.fallThrough :=
  have ⟨_, npc, _⟩ := view.flow
  ⟨view.regs, view.hiLo, ⟨npc, congrArg (· + 4#32) npc, rfl⟩, view.kuseg, view.params, view.draws⟩

theorem annul (view : UserView s s') : UserView s.annul s'.annul :=
  ⟨view.regs, view.hiLo, ⟨congrArg (· + 8#32) view.pc, congrArg (· + 12#32) view.pc, rfl⟩, view.kuseg, view.params,
    view.draws⟩

theorem linked (view : UserView s s') (link : Option RegNo) : UserView (s.linked link) (s'.linked link) := by
  cases link with
  | none => exact view
  | some r =>
    unfold State.linked State.link
    rw [view.pc]
    exact view.setReg r _

theorem branchIf (view : UserView s s') (taken : Bool) (imm : BitVec 16) :
    UserView (s.branchIf taken imm) (s'.branchIf taken imm) := by
  unfold State.branchIf
  rw [view.pc]
  cases taken
  · exact view.fallThrough
  · exact view.branchTo _

theorem branchLikelyIf (view : UserView s s') (taken : Bool) (imm : BitVec 16) :
    UserView (s.branchLikelyIf taken imm) (s'.branchLikelyIf taken imm) := by
  unfold State.branchLikelyIf
  rw [view.pc]
  cases taken
  · exact view.annul
  · exact view.branchTo _


theorem storeBytes (view : UserView s s') (inv : StateInv s) (inv' : StateInv s') (a : Word) (bytes : List Byte) :
    UserView (s.storeBytes a bytes) (s'.storeBytes a bytes) where
  regs := view.regs
  hiLo := view.hiLo
  flow := view.flow
  kuseg b kuseg := by
    have same := view.kuseg b kuseg
    unfold State.readByte State.phys at *
    rw [State.storeBytes_mem, State.storeBytes_mem, State.storeBytes_params, State.storeBytes_params]
    rw [view.params] at same ⊢
    exact Memory.read_writeBytes_congr _ bytes a _ inv.memCanonical inv'.memCanonical same
  params := view.params
  draws := view.draws

theorem dataFaults (mode : s'.status.kuC = s.status.kuC) (n : Nat) (a : Word) :
    s'.dataFaults n a = s.dataFaults n a := by
  simp only [State.dataFaults, State.kernelOnly, mode]

end UserView

/-! ### Two results that user mode cannot tell apart -/

/-- Both instructions complete, in states that user mode cannot tell apart and in one mode, or both are refused. -/
def LooksAlike (r r' : Result) : Prop :=
  (∃ t t', r = .next t ∧ r' = .next t' ∧ UserView t t' ∧ t'.status.kuC = t.status.kuC) ∨
    (r = .refused .branchInDelaySlot ∧ r' = .refused .branchInDelaySlot)

namespace LooksAlike
variable {s s' : State}

theorem of_raise (view : UserView s s') (e : Exc) : LooksAlike (s.raise e) (s'.raise e) :=
  .inl ⟨_, _, rfl, rfl, view.trapEntry e, rfl⟩

theorem of_transfer (view : UserView s s') {after after' : State} (departs : UserView after after')
    (stays : after'.status.kuC = after.status.kuC) : LooksAlike (s.transfer after) (s'.transfer after') := by
  have ⟨_, _, slot⟩ := view.flow
  unfold State.transfer
  rw [slot]
  split
  · exact .inr ⟨rfl, rfl⟩
  · exact .inl ⟨_, _, rfl, rfl, departs, stays⟩

section
variable (view : UserView s s') (mode : s'.status.kuC = s.status.kuC)
include view mode

theorem of_finish (r : RegNo) {v v' : Word} (same : v' = v) : LooksAlike (s.finish r v) (s'.finish r v') :=
  .inl ⟨_, _, rfl, rfl, same ▸ (view.setReg r v).advance, mode⟩

theorem of_finishUnless (r : RegNo) {o o' : Bool} {v v' : Word} (sameOverflow : o' = o) (same : v' = v) :
    LooksAlike (s.finishUnless o r v) (s'.finishUnless o' r v') := by
  subst sameOverflow
  cases o'
  · exact of_finish view mode r same
  · exact of_raise view .ov

theorem of_finishHiLo {hi hi' lo lo' : Word} (sameHi : hi' = hi) (sameLo : lo' = lo) :
    LooksAlike (s.finishHiLo hi lo) (s'.finishHiLo hi' lo') := by
  subst sameHi sameLo
  exact .inl ⟨_, _, rfl, rfl, (view.setHiLo ..).advance, mode⟩

theorem of_load {n : Nat} {value : State → Word → Word} (size : n = 1 ∨ n = 2 ∨ n = 4) (user : s.status.kuC = true)
    (sees : LoadsAlike n value) (rt rs : RegNo) (imm : BitVec 16) :
    LooksAlike (s.load n value rt rs imm) (s'.load n value rt rs imm) := by
  simp only [State.load, view.reg, UserView.dataFaults mode]
  split
  case isTrue => exact of_raise view _
  case isFalse passes =>
    have allowed := (State.dataFaults_eq_false_iff size).mp (Bool.eq_false_iff.mpr passes)
    exact of_finish view mode rt (sees s s' _ view user allowed)

theorem of_store (inv : StateInv s) (inv' : StateInv s') (n : Nat) (bytes : Word → List Byte) (rt rs : RegNo)
    (imm : BitVec 16) :
    LooksAlike (s.store n (fun s ea v => s.storeBytes ea (bytes v)) rt rs imm)
      (s'.store n (fun s ea v => s.storeBytes ea (bytes v)) rt rs imm) := by
  simp only [State.store, view.reg, UserView.dataFaults mode]
  split
  case isTrue => exact of_raise view _
  case isFalse => exact .inl ⟨_, _, rfl, rfl, (view.storeBytes inv inv' _ _).advance, mode⟩

end

theorem of_withCop0 (view : UserView s s') (denied : ¬Cop0Allowed s) (denied' : ¬Cop0Allowed s') (k k' : Result) :
    LooksAlike (s.withCop0 k) (s'.withCop0 k') := by
  rw [State.withCop0_of_not_allowed denied, State.withCop0_of_not_allowed denied']
  exact of_raise view _

end LooksAlike

end Sys2Proof

namespace Sys2Proof.Machine

theorem not_cop0Allowed {s : State} (user : s.status.kuC = true) (unusable : s.status.cu0 = false) : ¬Cop0Allowed s := by
  simp [Cop0Allowed, user, unusable]

theorem State.linked_status (s : State) (link : Option RegNo) : (s.linked link).status = s.status := by
  cases link <;> rfl

theorem State.branchIf_status (s : State) (taken : Bool) (imm : BitVec 16) : (s.branchIf taken imm).status = s.status := by
  cases taken <;> rfl

theorem State.branchLikelyIf_status (s : State) (taken : Bool) (imm : BitVec 16) :
    (s.branchLikelyIf taken imm).status = s.status := by
  cases taken <;> rfl

/-- Settles O60: by the shape of the instruction's meaning, whose values are ones user mode may see; the COP0 instructions,
which read the rest, all raise CpU. -/
theorem userModeSeesNoSecret : Obligations.UserModeSeesNoSecret := by
  intro i s s' inv inv' view user unusable user' unusable'
  have mode : s'.status.kuC = s.status.kuC := user'.trans user.symm
  have denied := not_cop0Allowed user unusable
  have denied' := not_cop0Allowed user' unusable'
  have linkedMode : ∀ link, (s'.linked link).status.kuC = (s.linked link).status.kuC := fun link => by
    rw [State.linked_status, State.linked_status, mode]
  show LooksAlike (exec i s) (exec i s')
  cases meaning i with
  | load run size sees => exact run s ▸ run s' ▸ .of_load view mode size user sees ..
  | store run => exact run s ▸ run s' ▸ .of_store view mode inv inv' ..
  | finish run sees => exact run s ▸ run s' ▸ .of_finish view mode _ (sees s s' view)
  | finishUnless run seesOverflow sees =>
    exact run s ▸ run s' ▸ .of_finishUnless view mode _ (seesOverflow s s' view) (sees s s' view)
  | hiLo run seesHi seesLo => exact run s ▸ run s' ▸ .of_finishHiLo view mode (seesHi s s' view) (seesLo s s' view)
  | jump _ link target run =>
    rw [run s, run s', view.pc]
    exact .of_transfer view ((view.linked link).branchTo _) (linkedMode link)
  | jumpRegister _ link rs _ run =>
    rw [run s, run s', view.reg]
    exact .of_transfer view ((view.linked link).branchTo _) (linkedMode link)
  | branch _ link run sees =>
    rw [run s, run s', sees s s' view]
    refine .of_transfer view ((view.linked link).branchIf ..) ?_
    rw [State.branchIf_status, State.branchIf_status, linkedMode]
  | branchLikely _ link run sees =>
    rw [run s, run s', sees s s' view]
    refine .of_transfer view ((view.linked link).branchLikelyIf ..) ?_
    rw [State.branchLikelyIf_status, State.branchLikelyIf_status, linkedMode]
  | mfc0 | mtc0 | rfe | icinv => exact .of_withCop0 view denied denied' ..
  | raise run => exact run s ▸ run s' ▸ .of_raise view _

/-! ### What user mode cannot change -/

/-- A store that user mode may make changes no byte outside kuseg. -/
theorem State.kuseg_of_readByte_storeBytes_ne {s : State} (inv : StateInv s) {n : Nat} {a : Word} {bytes : List Byte}
    (allowed : DataAllowed s n a) (length : bytes.length = n) (size : n = 1 ∨ n = 2 ∨ n = 4) (user : s.status.kuC = true)
    {b : Word} (changed : (s.storeBytes a bytes).readByte b ≠ s.readByte b) :
    ∃ c : Word, 2 ^ 31 ≤ c.toNat ∧ s.phys c = s.phys b := by
  by_contra outside
  refine changed (s.readByte_storeBytes_other a b bytes inv.memCanonical fun k inside reached => outside ?_)
  exact ⟨_, allowed.kuseg_add size user (length ▸ inside), reached.symm⟩

theorem State.lookup_marks_storeBytes_of_marked {s : State} (inv : StateInv s) (a : Word) (bytes : List Byte) {n : Nat}
    (marked : (Marks.lookup s.marks n).isSome = true) :
    Marks.lookup (s.storeBytes a bytes).marks n = Marks.lookup s.marks n := by
  obtain ⟨old, marked⟩ := Option.isSome_iff_exists.mp marked
  rw [State.storeBytes_marks, Marks.lookup_add _ _ _ inv.marksCanonical, marked]
  split <;> rfl

/-- Settles O59: by the effects of an instruction, of which those on CP0 and on the marks want CP0 usable, and a store is
to kuseg. -/
theorem userModeConfined : Obligations.UserModeConfined := by
  intro i s t inv user unusable run
  have effect := exec_effect run
  have outside := effect.keepsOutside
  have denied : ¬s.cop0Usable = true := mt s.cop0Usable_iff.mp (not_cop0Allowed user unusable)
  cases effect with
  | trap e => exact .inl ⟨e.code, isExcCode_code e, s.entersTrap_code e⟩
  | register | hiLo =>
    exact .inr ⟨⟨⟨rfl, rfl, rfl, rfl, rfl, rfl⟩, rfl, rfl⟩, outside, fun _ changed => absurd rfl changed, fun _ _ => rfl⟩
  | jump _ departs | jumpAndLink _ _ departs =>
    cases departs
    all_goals
      exact .inr ⟨⟨⟨rfl, rfl, rfl, rfl, rfl, rfl⟩, rfl, rfl⟩, outside, fun _ changed => absurd rfl changed, fun _ _ => rfl⟩
  | store n a bytes passes length size =>
    have allowed := (State.dataFaults_eq_false_iff size).mp passes
    exact .inr ⟨⟨⟨rfl, rfl, rfl, rfl, rfl, rfl⟩, rfl, rfl⟩, outside,
      fun b changed => State.kuseg_of_readByte_storeBytes_ne inv allowed length size user changed,
      fun n marked => State.lookup_marks_storeBytes_of_marked inv a bytes marked⟩
  | writeCp0 _ _ usable | restoreStatus usable | clearMarks usable => exact absurd usable denied

end Sys2Proof.Machine
end

section
/-! Proofs of the obligations of spec/20_memory.md about stores: the mark a store leaves, and the order of the bytes of a
stored word as loads of every width see it. -/

namespace Sys2Proof.Machine

/-- Settles O28: `Marks.lookup_add` at the stored word and at another. -/
theorem storesMarkTheirWord : Obligations.StoresMarkTheirWord := by
  intro s a bytes inv t
  have lookup : ∀ n, Marks.lookup t.marks n =
      if s.wordNo a = n then some ((Marks.lookup s.marks n).getD (s.readWord (wordAligned a)))
      else Marks.lookup s.marks n := fun n => Marks.lookup_add _ n _ inv.marksCanonical
  exact ⟨(lookup _).trans (if_pos rfl), fun n other => (lookup n).trans (if_neg other.symm)⟩

/-! ### Parts of an aligned word -/

section
variable {s : State} {a : Word}

/-- An aligned part of a word that may be accessed may be accessed. -/
theorem dataAllowed_part (allowed : DataAllowed s 4 a) {n k : Nat} (size : n = 1 ∨ n = 2) (aligned : k % n = 0)
    (inside : k + n ≤ 4) : DataAllowed s n (a + BitVec.ofNat 32 k) := by
  refine ⟨?_, fun user => allowed.kuseg_add (by simp) user (by omega)⟩
  obtain ⟨onWord, -⟩ := allowed
  rw [BitVec.toNat_add, BitVec.toNat_ofNat]
  obtain rfl | rfl := size <;> omega

/-- With at least two address bits decoded, the four bytes of an aligned word are four physical bytes. -/
theorem State.phys_add_ne (decoded : 2 ≤ s.params.paBits) (onWord : a.toNat % 4 = 0) {j k : Nat} (hk : k < j)
    (hj : j < 4) : s.phys (a + BitVec.ofNat 32 k) ≠ s.phys (a + BitVec.ofNat 32 j) := by
  have low : ∀ i < 4, s.phys (a + BitVec.ofNat 32 i) % 4 = i := fun i hi => by
    have divides : 4 ∣ 2 ^ s.params.paBits := pow_dvd_pow 2 decoded
    unfold State.phys
    rw [Nat.mod_mod_of_dvd _ divides, BitVec.toNat_add, BitVec.toNat_ofNat]
    omega
  intro same
  have := low k (by omega)
  have := low j hj
  omega

/-- The bytes of a stored word, the most significant first. -/
theorem State.readByte_writeWord (inv : StateInv s) (decoded : 2 ≤ s.params.paBits) (onWord : a.toNat % 4 = 0) (v : Word)
    {k : Nat} (hk : k < 4) :
    (s.writeWord a v).readByte (a + BitVec.ofNat 32 k) = v.extractLsb' (24 - 8 * k) 8 := by
  rw [State.writeWord_eq_storeBytes, State.readByte_storeBytes_at s a _ k (by simpa using hk) inv.memCanonical]
  · simp
  · intro j after more
    exact State.phys_add_ne decoded onWord after (by simpa using more)

/-- The halves of a stored word, the most significant first. -/
theorem State.readHalf_writeWord (inv : StateInv s) (decoded : 2 ≤ s.params.paBits) (onWord : a.toNat % 4 = 0) (v : Word)
    {k : Nat} (hk : k < 2) :
    (s.writeWord a v).readHalf (a + BitVec.ofNat 32 (2 * k)) = v.extractLsb' (16 - 16 * k) 16 := by
  have upper := State.readByte_writeWord inv decoded onWord v (k := 2 * k) (by omega)
  have lower := State.readByte_writeWord inv decoded onWord v (k := 2 * k + 1) (by omega)
  have next : a + BitVec.ofNat 32 (2 * k) + 1#32 = a + BitVec.ofNat 32 (2 * k + 1) := by
    rw [BitVec.add_assoc, ← BitVec.ofNat_add]
  have joined := extractLsb'_append_extractLsb' v (16 - 16 * k) 8 8
  rw [State.readHalf, next, upper, lower, ← joined]
  congr 2 <;> omega

/-- A stored word reads back. -/
theorem State.readWord_writeWord (inv : StateInv s) (decoded : 2 ≤ s.params.paBits) (onWord : a.toNat % 4 = 0) (v : Word) :
    (s.writeWord a v).readWord a = v := by
  have byte := fun k hk => State.readByte_writeWord inv decoded onWord v (k := k) hk
  have first := byte 0 (by omega)
  rw [show BitVec.ofNat 32 0 = 0#32 from rfl, BitVec.add_zero] at first
  rw [State.readWord, first, byte 1 (by omega), byte 2 (by omega), byte 3 (by omega)]
  exact wordOfBytes_bytes v

end

theorem effectiveAddress_ofNat (base : Word) {k : Nat} (small : k < 4) :
    effectiveAddress base (BitVec.ofNat 16 k) = base + BitVec.ofNat 32 k := by
  have extended : ∀ k < 4, signExt (BitVec.ofNat 16 k) = BitVec.ofNat 32 k := by decide
  rw [effectiveAddress, extended k small]

/-- The byte and the half of a word, as numbers (R74). -/
theorem zeroExtByte_extractLsb' (v : Word) {k : Nat} (hk : k < 4) :
    zeroExtByte (v.extractLsb' (24 - 8 * k) 8) = BitVec.ofNat 32 (v.toNat / 256 ^ (3 - k) % 256) := by
  have power : 2 ^ (24 - 8 * k) = 256 ^ (3 - k) := by
    obtain rfl | rfl | rfl | rfl : k = 0 ∨ k = 1 ∨ k = 2 ∨ k = 3 := by omega
    all_goals rfl
  apply BitVec.eq_of_toNat_eq
  simp only [zeroExtByte, BitVec.truncate_eq_setWidth, BitVec.toNat_setWidth, BitVec.extractLsb'_toNat,
    Nat.shiftRight_eq_div_pow, BitVec.toNat_ofNat, power]

theorem zeroExtHalf_extractLsb' (v : Word) {k : Nat} (hk : k < 2) :
    zeroExtHalf (v.extractLsb' (16 - 16 * k) 16) = BitVec.ofNat 32 (v.toNat / 65536 ^ (1 - k) % 65536) := by
  have power : 2 ^ (16 - 16 * k) = 65536 ^ (1 - k) := by
    obtain rfl | rfl : k = 0 ∨ k = 1 := by omega
    all_goals rfl
  apply BitVec.eq_of_toNat_eq
  simp only [zeroExtHalf, BitVec.truncate_eq_setWidth, BitVec.toNat_setWidth, BitVec.extractLsb'_toNat,
    Nat.shiftRight_eq_div_pow, BitVec.toNat_ofNat, power]

/-- Settles O29: SW leaves the word's bytes at its address, and each load reads back its part of them. -/
theorem mixedWidthAccess : Obligations.MixedWidthAccess := by
  intro s rt rs rd inv decoded allowed _
  have onWord := allowed.1
  have base := effectiveAddress_ofNat (s.reg rs) (k := 0) (by omega)
  rw [show BitVec.ofNat 32 0 = 0#32 from rfl, BitVec.add_zero] at base
  have stored := exec_store_of_allowed (exec_sw s rt rs 0#16) (by simp) (base.symm ▸ allowed)
  rw [show (0#16 : BitVec 16) = BitVec.ofNat 16 0 from rfl, base] at stored
  refine ⟨(s.writeWord (s.reg rs) (s.reg rt)).advance, stored, ?word, fun k hk => ?byte, fun k hk => ?half⟩
  case word =>
    have loads := computes_of_exec_load (exec_lw (s.writeWord (s.reg rs) (s.reg rt)).advance rd rs 0#16) (by simp)
      (base.symm ▸ allowed)
    exact (congrArg (Computes _ _ rd) ((congrArg _ base).trans (State.readWord_writeWord inv decoded onWord _))).mp loads
  case byte =>
    have at_part := effectiveAddress_ofNat (s.reg rs) hk
    have loads := computes_of_exec_load (exec_lbu (s.writeWord (s.reg rs) (s.reg rt)).advance rd rs (BitVec.ofNat 16 k))
      (by simp) (at_part.symm ▸ dataAllowed_part allowed (.inl rfl) (Nat.mod_one k) (by omega))
    rw [← zeroExtByte_extractLsb' _ hk, ← State.readByte_writeWord inv decoded onWord _ hk, ← at_part]
    exact loads
  case half =>
    have at_part := effectiveAddress_ofNat (s.reg rs) (k := 2 * k) (by omega)
    have loads := computes_of_exec_load
      (exec_lhu (s.writeWord (s.reg rs) (s.reg rt)).advance rd rs (BitVec.ofNat 16 (2 * k)))
      (by simp) (at_part.symm ▸ dataAllowed_part allowed (.inr rfl) (Nat.mul_mod_right 2 k) (by omega))
    rw [← zeroExtHalf_extractLsb' _ hk, ← State.readHalf_writeWord inv decoded onWord _ hk, ← at_part]
    exact loads

end Sys2Proof.Machine
end

section
/-! Proofs of the obligations about overflow (spec/41_immediate_computational.md and spec/42_register_computational.md),
multiplication and division (spec/43_multiply_divide.md). -/

namespace Sys2Proof.Machine

/-! ### The instructions that may overflow (R161, R181, R183) -/

theorem outOfRange_iff (r : Int) : outOfRange r = true ↔ ¬(-2 ^ 31 ≤ r ∧ r ≤ 2 ^ 31 - 1) := by
  rw [outOfRange, Bool.or_eq_true, decide_eq_true_eq, decide_eq_true_eq]
  omega

section
variable (s : State) (rd rs rt : RegNo) (imm : BitVec 16)

theorem exec_add :
    exec (.add rd rs rt) s =
      s.finishUnless (outOfRange ((s.reg rs).toInt + (s.reg rt).toInt)) rd (s.reg rs + s.reg rt) := rfl

theorem exec_addi :
    exec (.addi rt rs imm) s =
      s.finishUnless (outOfRange ((s.reg rs).toInt + imm.toInt)) rt (s.reg rs + imm.signExtend 32) := by
  rw [← toInt_signExt]
  rfl

theorem exec_sub :
    exec (.sub rd rs rt) s =
      s.finishUnless (outOfRange ((s.reg rs).toInt - (s.reg rt).toInt)) rd (s.reg rs - s.reg rt) := rfl

end

section
variable {s : State} {i : Instr} {r : Int} {d : RegNo} {v : Word}

theorem computes_of_exec_finishUnless (run : exec i s = s.finishUnless (outOfRange r) d v)
    (fits : -2 ^ 31 ≤ r ∧ r ≤ 2 ^ 31 - 1) : Computes s i d v :=
  computes_of_exec_finish (run.trans (if_neg (mt (outOfRange_iff r).mp (not_not_intro fits))))

theorem traps_of_exec_finishUnless (run : exec i s = s.finishUnless (outOfRange r) d v)
    (overflow : ¬(-2 ^ 31 ≤ r ∧ r ≤ 2 ^ 31 - 1)) : Traps s i 12#5 none none :=
  ⟨s.trapEntry .ov, run.trans (if_pos ((outOfRange_iff r).mpr overflow)), s.entersTrap_trapEntry .ov nofun nofun⟩

end

/-- Settles O35: each of the three answers `State.finishUnless` on its exact result. -/
theorem overflowTraps : Obligations.OverflowTraps := by
  intro s rd rs rt imm a b fits
  exact ⟨computes_of_exec_finishUnless (exec_add ..), traps_of_exec_finishUnless (exec_add ..),
    computes_of_exec_finishUnless (exec_addi ..), traps_of_exec_finishUnless (exec_addi ..),
    computes_of_exec_finishUnless (exec_sub ..), traps_of_exec_finishUnless (exec_sub ..)⟩

/-- The model's test by exact value is the library's test of the same kind, for which the sign rule is known. -/
theorem addOverflows_eq_saddOverflow (a b : Word) : addOverflows a b = a.saddOverflow b := by
  rw [Bool.eq_iff_iff, addOverflows, outOfRange_iff, BitVec.saddOverflow, Bool.or_eq_true, decide_eq_true_eq,
    decide_eq_true_eq]
  omega

theorem subOverflows_eq_ssubOverflow (a b : Word) : subOverflows a b = a.ssubOverflow b := by
  rw [Bool.eq_iff_iff, subOverflows, outOfRange_iff, BitVec.ssubOverflow, Bool.or_eq_true, decide_eq_true_eq,
    decide_eq_true_eq]
  omega

/-- Settles O36: the library's sign rules for the sum and the difference, read as the spec writes them. -/
theorem overflowBySigns : Obligations.OverflowBySigns := by
  intro a b
  have sumRule : ∀ x y z : Bool, (x == y && !(z == x)) = true ↔ x = y ∧ z ≠ x := by decide
  have differenceRule : ∀ x y z : Bool, (!x && y && z || x && !y && !z) = true ↔ x ≠ y ∧ z ≠ x := by decide
  rw [addOverflows_eq_saddOverflow, subOverflows_eq_ssubOverflow, BitVec.saddOverflow_eq, BitVec.ssubOverflow_eq]
  exact ⟨sumRule .., differenceRule ..⟩

/-! ### Multiplication (R211, R212) -/

section
variable (s : State) (rs rt : RegNo)

theorem exec_mult :
    exec (.mult rs rt) s =
      s.finishHiLo (upperHalf (signedProduct (s.reg rs) (s.reg rt))) (lowerHalf (signedProduct (s.reg rs) (s.reg rt))) :=
  rfl

theorem exec_multu :
    exec (.multu rs rt) s =
      s.finishHiLo (upperHalf (unsignedProduct (s.reg rs) (s.reg rt)))
        (lowerHalf (unsignedProduct (s.reg rs) (s.reg rt))) := rfl

end

theorem toNat_upperHalf (p : BitVec 64) : (upperHalf p).toNat = p.toNat / 2 ^ 32 := by
  rw [upperHalf, BitVec.extractLsb'_toNat, Nat.shiftRight_eq_div_pow]
  omega

theorem toNat_lowerHalf (p : BitVec 64) : (lowerHalf p).toNat = p.toNat % 2 ^ 32 := by
  rw [lowerHalf, BitVec.extractLsb'_toNat, Nat.shiftRight_zero]

/-- The two halves of a product, the upper one signed, make up its signed value. -/
theorem toInt_halves (p : BitVec 64) : (upperHalf p).toInt * 2 ^ 32 + ((lowerHalf p).toNat : Int) = p.toInt := by
  rw [BitVec.toInt_eq_toNat_cond, BitVec.toInt_eq_toNat_cond, toNat_upperHalf, toNat_lowerHalf]
  omega

theorem toNat_halves (p : BitVec 64) : (upperHalf p).toNat * 2 ^ 32 + (lowerHalf p).toNat = p.toNat := by
  rw [toNat_upperHalf, toNat_lowerHalf]
  omega

/-- The product of two words fits in 64 bits, signed and unsigned. -/
theorem toInt_signedProduct (a b : Word) : (signedProduct a b).toInt = a.toInt * b.toInt := by
  have above : a.toInt * b.toInt ≤ 2 ^ (32 * 2 - 2) := BitVec.toInt_mul_toInt_le
  have below : -(2 ^ (32 * 2 - 2)) ≤ a.toInt * b.toInt := BitVec.le_toInt_mul_toInt
  exact BitVec.toInt_ofInt_eq_self (by decide) (by omega) (by omega)

theorem toNat_unsignedProduct (a b : Word) : (unsignedProduct a b).toNat = a.toNat * b.toNat := by
  have fits : a.toNat * b.toNat < 2 ^ 32 * 2 ^ 32 := Nat.mul_lt_mul'' a.isLt b.isLt
  exact Nat.mod_eq_of_lt fits

/-- Settles O37: each product fits in 64 bits, and the two halves make it up. -/
theorem multiplyResults : Obligations.MultiplyResults := fun s rs rt =>
  ⟨setsHiLo_of_exec_finishHiLo (exec_mult s rs rt) ((toInt_halves _).trans (toInt_signedProduct ..)),
    setsHiLo_of_exec_finishHiLo (exec_multu s rs rt) ((toNat_halves _).trans (toNat_unsignedProduct ..))⟩

/-! ### Division (R213, R214) -/

section
variable {n d : Word}

theorem signedDivideOpen_iff : signedDivideOpen n d = true ↔ d = 0#32 ∨ n.toInt = -2 ^ 31 ∧ d.toInt = -1 := by
  have least : n = 0x80000000#32 ↔ n.toInt = -2 ^ 31 := BitVec.toInt_inj.symm
  have minusOne : d = 0xffffffff#32 ↔ d.toInt = -1 := BitVec.toInt_inj.symm
  rw [signedDivideOpen, Bool.or_eq_true, Bool.and_eq_true, beq_iff_eq, beq_iff_eq, beq_iff_eq, least, minusOne]

theorem unsignedDivideOpen_iff : unsignedDivideOpen d = true ↔ d = 0#32 := beq_iff_eq

/-- The signed quotient fits in a word unless it is that of the least number by -1. -/
theorem toInt_signedQuotient (closed : ¬(n.toInt = -2 ^ 31 ∧ d.toInt = -1)) :
    (BitVec.ofInt 32 (signedQuotient n.toInt d.toInt)).toInt = n.toInt.tdiv d.toInt := by
  have fits : n ≠ BitVec.intMin 32 ∨ d ≠ -1#32 := by
    rw [← not_and_or]
    rintro ⟨rfl, rfl⟩
    exact closed ⟨rfl, rfl⟩
  rw [signedQuotient, ← BitVec.toInt_sdiv_of_ne_or_ne n d fits, BitVec.ofInt_toInt]

theorem toInt_signedRemainder : (BitVec.ofInt 32 (signedRemainder n.toInt d.toInt)).toInt = n.toInt.tmod d.toInt := by
  rw [signedRemainder, signedQuotient, Int.mul_comm, ← Int.tmod_def, ← BitVec.toInt_srem, BitVec.ofInt_toInt]

/-- A remainder that rounds toward zero is zero or has the dividend's sign. -/
theorem tmod_eq_zero_or_neg_iff (n d : Int) : n.tmod d = 0 ∨ (n.tmod d < 0 ↔ n < 0) := by
  have sign := Int.sign_tmod n d
  split at sign
  · exact .inl (Int.sign_eq_zero_iff_zero.mp sign)
  · rw [← Int.sign_neg_iff, sign, Int.sign_neg_iff]
    exact .inr .rfl

end

section
variable (s : State) (rs rt : RegNo)

/-- Both divides answer `State.finishHiLo`, whether or not the spec gives their operands a result. -/
theorem exec_div_of_open (corner : signedDivideOpen (s.reg rs) (s.reg rt) = true) :
    exec (.div rs rt) s =
      s.finishHiLo (Config.divideHi s.draws (s.reg rs) (s.reg rt)) (Config.divideLo s.draws (s.reg rs) (s.reg rt)) :=
  if_pos corner

theorem exec_div_of_not_open (closed : ¬signedDivideOpen (s.reg rs) (s.reg rt) = true) :
    exec (.div rs rt) s =
      s.finishHiLo (BitVec.ofInt 32 (signedRemainder (s.reg rs).toInt (s.reg rt).toInt))
        (BitVec.ofInt 32 (signedQuotient (s.reg rs).toInt (s.reg rt).toInt)) :=
  if_neg closed

theorem exec_divu_of_open (corner : unsignedDivideOpen (s.reg rt) = true) :
    exec (.divu rs rt) s =
      s.finishHiLo (Config.divideHi s.draws (s.reg rs) (s.reg rt)) (Config.divideLo s.draws (s.reg rs) (s.reg rt)) :=
  if_pos corner

theorem exec_divu_of_not_open (closed : ¬unsignedDivideOpen (s.reg rt) = true) :
    exec (.divu rs rt) s =
      s.finishHiLo (BitVec.ofNat 32 ((s.reg rs).toNat % (s.reg rt).toNat))
        (BitVec.ofNat 32 ((s.reg rs).toNat / (s.reg rt).toNat)) :=
  if_neg closed

end

/-- Settles O38: with a result, the two values written are the truncated quotient and its remainder, and the division
equation and the remainder's size and sign are those of `Int.tdiv` and of `Nat.div`. -/
theorem divideResults : Obligations.DivideResults := by
  intro s rs rt n d
  refine ⟨fun nonzero closed => ?signed, fun nonzero => ?unsigned⟩
  case signed =>
    refine setsHiLo_of_exec_finishHiLo
      (exec_div_of_not_open s rs rt (mt signedDivideOpen_iff.mp (not_or.mpr ⟨nonzero, closed⟩))) ?_
    rw [toInt_signedQuotient closed, toInt_signedRemainder, Int.natAbs_tmod]
    have positive : 0 < d.toInt.natAbs := Int.natAbs_pos.mpr fun zero => nonzero (BitVec.toInt_inj.mp zero)
    exact ⟨(Int.tdiv_mul_add_tmod ..).symm, Nat.mod_lt _ positive, tmod_eq_zero_or_neg_iff ..⟩
  case unsigned =>
    refine setsHiLo_of_exec_finishHiLo (exec_divu_of_not_open s rs rt (mt unsignedDivideOpen_iff.mp nonzero)) ?_
    have quotient : (BitVec.ofNat 32 (n.toNat / d.toNat)).toNat = n.toNat / d.toNat :=
      Nat.mod_eq_of_lt ((Nat.div_le_self ..).trans_lt n.isLt)
    have remainder : (BitVec.ofNat 32 (n.toNat % d.toNat)).toNat = n.toNat % d.toNat :=
      Nat.mod_eq_of_lt ((Nat.mod_le ..).trans_lt n.isLt)
    have positive : 0 < d.toNat := Nat.pos_of_ne_zero fun zero => nonzero (BitVec.toNat_inj.mp zero)
    rw [quotient, remainder]
    exact ⟨(Nat.div_add_mod' ..).symm, Nat.mod_lt _ positive⟩

/-- Settles O39: in each corner the divide answers `State.finishHiLo` on its free values. -/
theorem divideOpenCorners : Obligations.DivideOpenCorners := by
  intro s rs rt
  refine ⟨fun zero => ⟨?signedByZero, ?unsignedByZero⟩, fun least minusOne => ?leastByMinusOne⟩
  case signedByZero =>
    exact setsHiLo_of_exec_finishHiLo (exec_div_of_open s rs rt (signedDivideOpen_iff.mpr (.inl zero))) trivial
  case unsignedByZero =>
    exact setsHiLo_of_exec_finishHiLo (exec_divu_of_open s rs rt (unsignedDivideOpen_iff.mpr zero)) trivial
  case leastByMinusOne =>
    exact setsHiLo_of_exec_finishHiLo
      (exec_div_of_open s rs rt (signedDivideOpen_iff.mpr (.inr ⟨least, minusOne⟩))) trivial

end Sys2Proof.Machine
end

section
/-! Proofs of the obligations of spec/44_jumps_branches.md: where the jumps and branches outside a delay slot go, and the
link they leave. -/

namespace Sys2Proof.Machine

/-! ### Targets and conditions, as the spec writes them -/

/-- A jump's target keeps the top four bits of the delay slot's address (R106). -/
theorem jumpTarget_eq_ofNat (pc : Word) (target : BitVec 26) :
    jumpTarget pc target = BitVec.ofNat 32 ((pc + 4#32).toNat / 2 ^ 28 * 2 ^ 28 + target.toNat * 4) := by
  apply BitVec.eq_of_toNat_eq
  have low := target.isLt
  have joined : (jumpTarget pc target).toNat =
      ((pc + 4#32).toNat / 2 ^ 28 % 2 ^ 4 * 2 ^ 26 + target.toNat) * 2 ^ 2 := by
    rw [jumpTarget, BitVec.toNat_append, BitVec.toNat_append, BitVec.extractLsb'_toNat, BitVec.toNat_ofNat,
      Nat.zero_mod, Nat.or_zero, ← Nat.shiftLeft_add_eq_or_of_lt low, Nat.shiftLeft_eq, Nat.shiftLeft_eq,
      Nat.shiftRight_eq_div_pow]
  rw [joined, BitVec.toNat_ofNat]
  omega

/-- A branch's target is four times its signed displacement from the delay slot's address (R105). -/
theorem branchTarget_eq_ofInt (pc : Word) (imm : BitVec 16) :
    branchTarget pc imm = pc + 4#32 + BitVec.ofInt 32 (4 * imm.toInt) := by
  have fourfold : signExt imm <<< 2 = BitVec.ofInt 32 (4 * imm.toInt) := by
    rw [BitVec.shiftLeft_eq_mul_twoPow, ← toInt_signExt, BitVec.ofInt_mul, BitVec.ofInt_toInt, BitVec.mul_comm]
    rfl
  rw [branchTarget, fourfold]

theorem negative_iff (v : Word) : negative v = true ↔ v.toInt < 0 := by
  rw [negative, ← decide_eq_true_eq (p := v.toInt < 0), ← BitVec.msb_eq_toInt, BitVec.msb_eq_getLsbD_last]

theorem not_negative_iff (v : Word) : (!negative v) = true ↔ 0 ≤ v.toInt := by
  rw [Bool.not_eq_true', ← Bool.not_eq_true, negative_iff, Int.not_lt]

theorem lessEqZero_iff (v : Word) : lessEqZero v = true ↔ v.toInt ≤ 0 := decide_eq_true_iff

theorem greaterZero_iff (v : Word) : greaterZero v = true ↔ 0 < v.toInt := decide_eq_true_iff

/-! ### What a transfer changes (R231, R232) -/

section
variable {s : State} {i : Instr} (link : Option RegNo)

@[simp] theorem State.linked_pc : (s.linked link).pc = s.pc := by
  cases link <;> rfl

@[simp] theorem State.linked_npc : (s.linked link).npc = s.npc := by
  cases link <;> rfl

/-- The link register alone is written, and `r0` never (R234, R249). -/
theorem State.reg_linked (r : RegNo) :
    (s.linked link).reg r = if r ≠ 0#5 ∧ link = some r then s.pc + 8#32 else s.reg r := by
  cases link with
  | none => simp [State.linked]
  | some d =>
    rw [State.linked, State.link, State.reg_setReg]
    by_cases zero : r = 0#5
    · subst zero
      rw [if_pos rfl, if_neg (fun linked => linked.1 rfl)]
      rfl
    · simp only [zero, not_false_eq_true, true_and, Option.some.injEq, if_false, ne_eq, eq_comm (a := r)]

/-- Beside `pc`, `npc`, `ds` and the link register a transfer changes nothing. -/
theorem State.linked_frame (p n : Word) (d : Bool) :
    let t := { s.linked link with pc := p, npc := n, ds := d }
    KeepsHiLo s t ∧ KeepsCp0 s t ∧ KeepsMemory s t ∧ KeepsOutside s t := by
  have plainCp0 : KeepsPlainCp0 s { s.linked link with pc := p, npc := n, ds := d } := by
    cases link <;> exact ⟨rfl, rfl, rfl, rfl, rfl, rfl⟩
  cases link <;>
    exact ⟨⟨rfl, rfl⟩, ⟨plainCp0, rfl, rfl⟩, ⟨fun _ => rfl, rfl⟩, ⟨rfl, rfl, rfl, rfl⟩⟩

theorem transfers_of_exec_transfer (outside : s.ds = false) {p n : Word} {d : Bool}
    (run : exec i s = s.transfer { s.linked link with pc := p, npc := n, ds := d }) : Transfers s i link p n d :=
  ⟨_, run.trans (State.transfer_of_outside outside _), rfl, rfl, rfl, State.reg_linked link, State.linked_frame link p n d⟩

theorem transfers_of_exec_branchTo (outside : s.ds = false) {target : Word}
    (run : exec i s = s.transfer ((s.linked link).branchTo target)) : Transfers s i link s.npc target true := by
  rw [State.branchTo, State.linked_npc] at run
  exact transfers_of_exec_transfer link outside run

variable {taken : Bool} {condition : Prop} {imm : BitVec 16}

/-- A conditional branch marks the delay slot whether or not it is taken. -/
theorem transfers_of_exec_branchIf [Decidable condition] (outside : s.ds = false) (holds : taken = true ↔ condition)
    (run : exec i s = s.transfer ((s.linked link).branchIf taken imm)) :
    Transfers s i link s.npc
      (if condition then s.pc + 4#32 + BitVec.ofInt 32 (4 * imm.toInt) else s.npc + 4#32) true := by
  by_cases goes : condition
  · rw [State.branchIf, if_pos (holds.mpr goes), State.linked_pc, branchTarget_eq_ofInt] at run
    rw [if_pos goes]
    exact transfers_of_exec_branchTo link outside run
  · rw [State.branchIf, if_neg (mt holds.mp goes), State.fallThrough, State.linked_npc] at run
    rw [if_neg goes]
    exact transfers_of_exec_transfer link outside run

/-- A branch-likely goes as the plain branch where it is taken, and skips its delay slot where it is not. -/
theorem transfers_of_exec_branchLikelyIf (outside : s.ds = false) (holds : taken = true ↔ condition)
    (run : exec i s = s.transfer ((s.linked link).branchLikelyIf taken imm)) :
    (condition → Transfers s i link s.npc (s.pc + 4#32 + BitVec.ofInt 32 (4 * imm.toInt)) true) ∧
      (¬condition → Transfers s i link (s.pc + 8#32) (s.pc + 12#32) false) := by
  refine ⟨fun goes => ?taken, fun stays => ?annulled⟩
  case taken =>
    rw [State.branchLikelyIf, if_pos (holds.mpr goes), State.linked_pc, branchTarget_eq_ofInt] at run
    exact transfers_of_exec_branchTo link outside run
  case annulled =>
    rw [State.branchLikelyIf, if_neg (mt holds.mp stays), State.annul, State.linked_pc] at run
    exact transfers_of_exec_transfer link outside run

end

/-! ### The obligations -/

/-- Settles O41: each jump is a transfer to its target, with or without a link. -/
theorem jumps : Obligations.Jumps := by
  intro s rd rs target outside far
  rw [show far = jumpTarget s.pc target from (jumpTarget_eq_ofNat ..).symm]
  exact ⟨transfers_of_exec_branchTo none outside rfl, transfers_of_exec_branchTo (some 31#5) outside rfl,
    transfers_of_exec_branchTo none outside rfl, transfers_of_exec_branchTo (some rd) outside rfl⟩

/-- Settles O42: each branch is `State.branchIf` on its condition, without a link. -/
theorem branches : Obligations.Branches := fun _ _ _ _ outside =>
  ⟨transfers_of_exec_branchIf none outside beq_iff_eq rfl, transfers_of_exec_branchIf none outside bne_iff_ne rfl,
    transfers_of_exec_branchIf none outside (lessEqZero_iff _) rfl,
    transfers_of_exec_branchIf none outside (greaterZero_iff _) rfl,
    transfers_of_exec_branchIf none outside (negative_iff _) rfl,
    transfers_of_exec_branchIf none outside (not_negative_iff _) rfl⟩

/-- Settles O43: each branch-likely is `State.branchLikelyIf` on its condition, without a link. -/
theorem likelyBranches : Obligations.LikelyBranches := fun _ _ _ _ outside =>
  ⟨transfers_of_exec_branchLikelyIf none outside beq_iff_eq rfl,
    transfers_of_exec_branchLikelyIf none outside bne_iff_ne rfl,
    transfers_of_exec_branchLikelyIf none outside (lessEqZero_iff _) rfl,
    transfers_of_exec_branchLikelyIf none outside (greaterZero_iff _) rfl,
    transfers_of_exec_branchLikelyIf none outside (negative_iff _) rfl,
    transfers_of_exec_branchLikelyIf none outside (not_negative_iff _) rfl⟩

/-- Settles O44: the plain and the likely branches on the sign of the old rs, with the link in r31. -/
theorem linkBranches : Obligations.LinkBranches := by
  intro s rs imm outside a there
  obtain ⟨negativeTaken, negativeAnnulled⟩ :=
    transfers_of_exec_branchLikelyIf (i := .bltzall rs imm) (some 31#5) outside (negative_iff a) rfl
  obtain ⟨otherTaken, otherAnnulled⟩ :=
    transfers_of_exec_branchLikelyIf (i := .bgezall rs imm) (some 31#5) outside (not_negative_iff a) rfl
  exact ⟨transfers_of_exec_branchIf (some 31#5) outside (negative_iff a) rfl,
    transfers_of_exec_branchIf (some 31#5) outside (not_negative_iff a) rfl,
    negativeTaken, negativeAnnulled, otherTaken, otherAnnulled⟩

/-- Settles O45: a link into `r0` writes nothing. -/
theorem jalrZeroIsJr : Obligations.JalrZeroIsJr := fun _ _ => rfl

end Sys2Proof.Machine
end
